-- ==== Sys2Proof/Word.lean ====
section
/-! DEFINITION. The words of the WK2406's frames and records, and the names the manual numbers (furnaces, units,
circuits, trip rows, ports, line symbols). -/

namespace Sys2Proof

/-- One byte of a frame. -/
abbrev Byte := BitVec 8

/-- A 2-byte field, little-endian on the link. -/
abbrev Half := BitVec 16

/-- A 4-byte field: heat ids, shop seconds, window numbers. -/
abbrev Word32 := BitVec 32

/-- F1 to F6, numbered from 0: `f` is F(f + 1). -/
abbrev Furnace := Fin 6

/-- U1 to U3, numbered from 0. -/
abbrev PowerUnit := Fin 3

/-- C1 to C16, numbered from 0. -/
abbrev Circuit := Fin 16

/-- T1 to T32, numbered from 0. -/
abbrev TripRow := Fin 32

/-- The two link ports (R151). -/
inductive Port where
  | plant
  | field
deriving DecidableEq, Repr

/-- The port a frame received on `p` crosses to. -/
def Port.other : Port → Port
  | .plant => .field
  | .field => .plant

/-- The line symbols of R151 and R152. -/
inductive LineSymbol where
  | idle
  | frameStart
  | data (b : Byte)
  | frameEnd
  | hold
  | go
deriving DecidableEq, Repr

end Sys2Proof
end

