-- ==== Sys2Proof/Syntax.lean ====
section
/-! DEFINITION. The commands of the WK2406: one constructor per row of spec/opcode_table.json.

A frame command carries the port the frame arrived on, its destination and source nodes and its payload; the frame is one
with a good check. FRAME_RECEIVE carries every byte between the start and end symbols, good or bad.
A management request command is the arrival on PLANT of a MGMT_REQUEST frame addressed to the part address in force; it
carries the frame's source node, the tag, and the request's arguments at the widths of R162's table. -/

namespace Sys2Proof

/-- One command: one event of the part, whole and indivisible (95_what_each_step_holds.md). -/
inductive Instr where
  -- pins and clock
  | coldReset
  | resetNAssertion
  | estopNAssertion
  | estopNDeassertion
  | shopClockTick
  -- line symbols and egress
  | symbolReceivedPortUp (p : Port) (sym : LineSymbol)
  | lineSymbolReceived (p : Port) (sym : LineSymbol)
  | holdReceived (p : Port)
  | goReceived (p : Port)
  | livenessTimerExpiry (p : Port)
  | egressTransmissionStart (p : Port)
  | transmissionEnd (p : Port)
  -- frames
  | frameReceive (p : Port) (bytes : List Byte)
  | sample (p : Port) (dst src : Byte) (payload : List Byte)
  | powerSet (p : Port) (dst src : Byte) (payload : List Byte)
  | powerReport (p : Port) (dst src : Byte) (payload : List Byte)
  | dipEventStart (p : Port) (dst src : Byte) (rest : List Byte)
  | dipEventResult (p : Port) (dst src : Byte) (rest : List Byte)
  | dipEventAbort (p : Port) (dst src : Byte) (rest : List Byte)
  | pourReport (p : Port) (dst src : Byte) (payload : List Byte)
  | windowSync (p : Port) (dst src : Byte) (payload : List Byte)
  | mgmtRequest (p : Port) (dst src : Byte) (payload : List Byte)
  -- table store requests
  | tableWrite (src tag : Byte) (table first count : Byte) (entries : List Byte)
  | tableSwap (src tag : Byte) (table : Byte)
  | tableRead (src tag : Byte) (table bank first count : Byte)
  -- heat tracker requests
  | heatOpen (src tag : Byte) (furnace : Byte) (mass : Half) (programme : Byte)
  | chargeAdd (src tag : Byte) (furnace : Byte) (heatId : Word32) (mass : Half)
  | heatClose (src tag : Byte) (furnace : Byte) (heatId : Word32) (reason : Byte)
  | readHeat (src tag : Byte) (furnace part : Byte)
  | readClosed (src tag : Byte) (first count : Byte)
  | dipEnter (src tag : Byte) (furnace : Byte) (heatId : Word32) (value : Half)
  | holdSet (src tag : Byte) (furnace : Byte) (heatId : Word32) (power duration : Half)
  | holdRelease (src tag : Byte) (furnace : Byte) (heatId : Word32)
  -- other requests
  | readDemand (src tag : Byte) (part : Byte)
  | readCircuit (src tag : Byte) (circuit : Byte)
  | readTrip (src tag : Byte) (row : Byte)
  | clearTrip (src tag : Byte) (row : Byte)
  | restorePower (src tag : Byte) (furnace : Byte)
  | restoreShop (src tag : Byte)
  | chemAccept (src tag : Byte) (furnace : Byte) (heatId : Word32)
  | chemRevoke (src tag : Byte) (furnace : Byte) (heatId : Word32)
  | tapRequest (src tag : Byte) (furnace : Byte) (heatId : Word32)
  | tapCancel (src tag : Byte) (furnace : Byte) (heatId : Word32)
  | readTap (src tag : Byte) (part : Byte)
  | readPorts (src tag : Byte) (port : Byte)
  | warmReset (src tag : Byte)
  -- warm reset and timers
  | warmResetTaken
  | integrationTimerExpiry (f : Furnace)
  | allocationPeriodExpiry
  | plantSilence
  | refreshTimerExpiry (f : Furnace)
  | ageTimerExpiry
  | spanTimerExpiry (c : Circuit)
  | holdIntervalExpiry (f : Furnace)
  | directedHoldExpiry (f : Furnace)
  | dipTimerExpiry (f : Furnace)
  | readinessTimerExpiry
  | tapWindowExpiry
  | stationSilenceExpiry
  | statusTimerExpiry
deriving DecidableEq, Repr

end Sys2Proof
end

