-- ==== Sys2Proof/Decode.lean ====
section
/-! DEFINITION. The command a word of the opcode table's bits spells. spec/opcode_table.json gives no row any bits
(its reader's counts: no row with "fixed", none with "fields"), so no word spells a command (log 25). The management
request codes of R162 are bytes of a frame, and are read in Machine/Requests.lean. -/

namespace Sys2Proof

/-- The command spelled by a word of the opcode table: none, since no row has bits. -/
def decodeTableWord (_nbits _w : Nat) : Option Instr := none

end Sys2Proof
end

