-- ==== Sys2Proof/Config.lean ====
section
/-! DEFINITION. Constants the manual fixes: frame kinds (R156), capacities and depths (R157, R163, R38, R63, R25),
ranges and the saturation bounds of counts. The manual calls no result undefined, so no free value stands here. -/

namespace Sys2Proof.Config

/-- Frame kinds (R156). -/
def kindSample : Byte := 0x11
def kindPowerSet : Byte := 0x22
def kindPowerReport : Byte := 0x23
def kindDipEvent : Byte := 0x34
def kindPourReport : Byte := 0x45
def kindTiltPermit : Byte := 0x46
def kindWindowSync : Byte := 0x57
def kindMgmtRequest : Byte := 0x68
def kindMgmtReply : Byte := 0x69
def kindShopStatus : Byte := 0x6A

/-- The start delimiter of a frame (R154). -/
def startDelimiter : Byte := 0x7E

/-- The broadcast address (00_scope.md, Numbering). -/
def broadcast : Byte := 127

/-- The largest payload (R154). -/
def maxPayload : Nat := 120

/-- Frames a forward queue holds, and the depths at which HOLD and GO are sent (R157). -/
def forwardCapacity : Nat := 16
def holdDepth : Nat := 12
def goDepth : Nat := 4

/-- Replies the reply queue holds (R163). -/
def replyCapacity : Nat := 4

/-- Entries of the closed-heat log (R38), the window history (R63) and a charge list (R25). -/
def closedLogCapacity : Nat := 8
def historyCapacity : Nat := 4
def chargeListCapacity : Nat := 16

/-- Largest bath mass in kg (R24) and largest temperature in 0.1 °C (R46). -/
def maxBathMass : Nat := 60000
def maxTemperature : Int := 18000

/-- Where 8-bit, 16-bit and 32-bit counts saturate. -/
def max8 : Nat := 255
def max16 : Nat := 65535
def max32 : Nat := 4294967295

end Sys2Proof.Config
end

