-- ==== Sys2Proof/Machine/State.lean ====
section
/-! DEFINITION. Every piece of state the manual gives the WK2406, as plain data, block by block in the order of
00_scope.md, and the values after cold reset. Table entries hold the bytes as written (R2); quantities the manual counts
are natural numbers or integers; ids, shop seconds and addresses are words. -/

namespace Sys2Proof.Machine

/-- A timer that runs: the shop second it was started at and the length it was started with. A stopped timer is `none`
(log 1; R16: a running timer keeps the length it was started with). -/
structure Timer where
  start : Word32
  length : Nat
deriving DecidableEq, Repr

/-! ### Table store (chapter 1) -/

/-- Bank A or bank B (R1). -/
inductive BankName where
  | a
  | b
deriving DecidableEq, Repr

/-- The operating mode (R1, R17). -/
inductive Mode where
  | unconfigured
  | running
  | shopStop
deriving DecidableEq, Repr

/-- One table in two banks, with its active-bank indicator, swap-pending mark and swap count (R1). -/
structure Banked (α : Type) where
  bankA : α
  bankB : α
  activeBank : BankName := .a
  swapPending : Bool := false
  swapCount : Nat := 0
deriving DecidableEq, Repr

/-- The SHOP entry (R3); defaults are the cold-reset contents. -/
structure ShopEntry where
  partAddress : Byte := 100
  ceiling : Half := 0
  windowLength : Half := 900
  windowMode : Byte := 0
  syncsPerWindow : Byte := 2
  syncGuard : Byte := 30
  peakCap : Word32 := 0
  boostLimit : Byte := 2
  requestLifetime : Byte := 5
  plantSilence : Byte := 10
  statusPeriod : Byte := 1
  pourNode : Byte := 0
  tapWindow : Half := 180
  restAngle : Byte := 0
  pourSilence : Byte := 5
deriving DecidableEq, Repr

/-- A UNIT entry (R4); 0 in an output is none. -/
structure UnitEntry where
  present : Byte := 0
  node : Byte := 0
  rating : Half := 0
  output1 : Byte := 0
  output2 : Byte := 0
deriving DecidableEq, Repr

/-- A FURNACE entry (R5). -/
structure FurnaceEntry where
  present : Byte := 0
  unit : Byte := 1
  output : Byte := 1
  rating : Half := 0
  ramp : Half := 0
  weight : Byte := 0
  holdFloor : Half := 0
  boost : Half := 0
  efficiency : Half := 0
  loss : Half := 0
  capacity : Half := 0
  heelMinimum : Half := 0
  minTapMass : Half := 0
  dipCap : Half := 0
  dipTimeout : Byte := 20
  freezeLimit : Half := 0
deriving DecidableEq, Repr

/-- A PROGRAMME entry (R6). -/
structure ProgrammeEntry where
  present : Byte := 0
  meltOut : Half := 0
  meltEnergy : Half := 0
  specificHeat : Half := 0
  holdTarget : Half := 0
  bandLow : Half := 0
  bandHigh : Half := 0
  tapLow : Half := 0
  tapHigh : Half := 0
  dipValidity : Half := 300
  acceptanceLifetime : Half := 0
  holdInterval : Half := 30
deriving DecidableEq, Repr

/-- A CHANNEL entry (R7); gain, offset and raw bounds are signed. -/
structure ChannelEntry where
  present : Byte := 0
  node : Byte := 0
  channel : Byte := 0
  circuit : Byte := 1
  quantity : Byte := 0
  gain : Half := 0
  offset : Half := 0
  rawMin : Half := 0
  rawMax : Half := 0
deriving DecidableEq, Repr

/-- A CIRCUIT entry (R8). -/
structure CircuitEntry where
  present : Byte := 0
  ownerKind : Byte := 2
  ownerNumber : Byte := 0
  flowDeadband : Half := 0
  inletDeadband : Half := 0
  outletDeadband : Half := 0
  maxAge : Byte := 0
  spanPeriod : Byte := 0
deriving DecidableEq, Repr

/-- A TRIP entry (R9); thresholds are signed. -/
structure TripEntry where
  present : Byte := 0
  scopeKind : Byte := 0
  scopeNumber : Byte := 0
  quantity : Byte := 0
  condition : Byte := 0
  thresholdA : Half := 0
  thresholdB : Half := 0
  persistence : Byte := 0
  action : Byte := 0
  latching : Byte := 0
deriving DecidableEq, Repr

/-- The table store (R1, R14). -/
structure TableStore where
  shop : Banked ShopEntry
  unit : Banked (Vector UnitEntry 3)
  furnace : Banked (Vector FurnaceEntry 6)
  programme : Banked (Vector ProgrammeEntry 8)
  channel : Banked (Vector ChannelEntry 64)
  circuit : Banked (Vector CircuitEntry 16)
  trip : Banked (Vector TripEntry 32)
  mode : Mode
  moving : Vector Bool 6
deriving DecidableEq, Repr

/-! ### Heat tracker (chapters 2 and 3) -/

/-- The stage of an open heat (R19); EMPTY is the absence of a record. -/
inductive Stage where
  | melting
  | superheat
  | holding
  | tapping
deriving DecidableEq, Repr

/-- The hold mode (R54). -/
inductive HoldMode where
  | floor
  | boost
  | boostWait
  | directed
deriving DecidableEq, Repr

/-- The source of a dip (R19). -/
inductive DipSource where
  | lance
  | host
deriving DecidableEq, Repr

/-- The last dip of a heat (R19). -/
structure Dip where
  value : Int
  second : Word32
  source : DipSource
deriving DecidableEq, Repr

/-- The analysis state of the bath (R19). -/
inductive Chemistry where
  | none
  | accepted (second : Word32)
  | void
deriving DecidableEq, Repr

/-- A charge list entry (R19, R25). -/
structure Charge where
  second : Word32
  mass : Nat
deriving DecidableEq, Repr

/-- A directed hold: its kW and its running timer, whose remaining seconds are reported (R19, R57). -/
structure DirectedHold where
  power : Nat
  timer : Timer
deriving DecidableEq, Repr

/-- A current-heat record (R19), with the heat's hold-interval timer (R29). -/
structure Heat where
  heatId : Word32
  programme : Fin 8
  stage : Stage
  charges : List Charge
  merged : Bool
  chargedTotal : Nat
  pouredTotal : Nat
  bathMass : Nat
  overfill : Bool
  meltRemaining : Nat
  energyDelivered : Nat
  estimate : Int
  residual : Int
  estimateValid : Bool
  lastDip : Option Dip
  chemistry : Chemistry
  holdMode : HoldMode
  directed : Option DirectedHold
  holdTimer : Option Timer
  unpowered : Nat
  freezeRisk : Bool
  pours : Nat
  openedAt : Word32
deriving DecidableEq, Repr

/-- The reason a heat was closed, in the order of its codes (R38). -/
inductive CloseReason where
  | emptied
  | drained
  | abandoned
deriving DecidableEq, Repr

/-- A closed-heat log entry (R38). -/
structure ClosedHeat where
  heatId : Word32
  furnace : Furnace
  programme : Fin 8
  openedAt : Word32
  closedAt : Word32
  chargedTotal : Nat
  pouredTotal : Nat
  energyDelivered : Nat
  reason : CloseReason
  pours : Nat
deriving DecidableEq, Repr

/-- The heat tracker's state (R19, R20, R38, R43, R49, R52). The closed-heat log is newest first. A dip window is open
exactly when its dip timer runs (R49, R51). -/
structure HeatTracker where
  heats : Vector (Option Heat) 6
  dipWindows : Vector (Option Timer) 6
  closedLog : List ClosedHeat
  nextHeatId : Word32
  dipInvalid : Nat
  dipUnmatched : Nat
  integrationTimers : Vector Timer 6
deriving DecidableEq, Repr

/-! ### Demand governor (chapters 4 and 5) -/

/-- How a window was closed, in the order of its codes (R63, R165). -/
inductive ClosedBy where
  | timer
  | sync
  | syncMissed
deriving DecidableEq, Repr

/-- The window record (R62). -/
structure WindowRecord where
  number : Word32
  elapsed : Nat
  used : Nat
  overrun : Nat
  peak : Nat
  syncCount : Nat
  demandOverrun : Bool
  issuedTotal : Nat
  floorExcess : Nat
  missedSyncs : Nat
  ignoredSyncs : Nat
  budget : Nat
  remaining : Nat
deriving DecidableEq, Repr

/-- A window history entry (R63). -/
structure HistoryEntry where
  number : Word32
  used : Nat
  overrun : Nat
  peak : Nat
  closedBy : ClosedBy
deriving DecidableEq, Repr

/-- A pulpit request or a power report: a power with its arrival second (R79). -/
structure PowerReading where
  power : Nat
  second : Word32
deriving DecidableEq, Repr

/-- A setpoint holding (R79, R92). `yields` is the model's own mark: the holding was made by an immediate lowering taken before the
start of a forwarded POWER_SET for the furnace, and gives way to that frame (R97, lowering taken first; log 14). -/
structure SetpointHolding where
  value : Nat
  urgent : Bool
  yields : Bool := false
deriving DecidableEq, Repr

/-- The governor's state of one furnace (R79). -/
structure FurnacePower where
  issued : Nat
  inForce : Nat
  request : Option PowerReading
  lastSent : Nat
  holding : Option SetpointHolding
  refresh : Option Timer
  report : Option PowerReading
deriving DecidableEq, Repr

/-- The demand governor's state (R62, R63, R64, R73, R79, R82). The history is newest first. -/
structure Governor where
  window : WindowRecord
  history : List HistoryEntry
  allowance : Nat
  furnaces : Vector FurnacePower 6
  allocationTimer : Timer
  plantSilence : Option Timer
deriving DecidableEq, Repr

/-! ### Cooling monitor (chapter 6) -/

/-- The span under way (R100, R106). -/
structure Span where
  low : Int
  high : Int
deriving DecidableEq, Repr

/-- A held value with its age (R100). -/
structure HeldQuantity where
  value : Option Int
  age : Nat
deriving DecidableEq, Repr

/-- A circuit record (R100). -/
structure CircuitRecord where
  present : Bool
  flow : HeldQuantity
  inlet : HeldQuantity
  outlet : HeldQuantity
  deltaT : Option Int
  span : Option Span
  lastSpan : Option Nat
  bad : Nat
  spanTimer : Option Timer
deriving DecidableEq, Repr

/-- The cooling monitor's state (R100, R108). -/
structure CoolingMonitor where
  circuits : Vector CircuitRecord 16
  sampleInvalid : Nat
  ageTimer : Timer
deriving DecidableEq, Repr

/-! ### Trip unit (chapter 7) -/

/-- The state of a trip record (R118). -/
inductive TripState where
  | idle
  | pending
  | active
deriving DecidableEq, Repr

/-- A permit (R122). -/
inductive Permit where
  | permitted
  | shed
  | cut
deriving DecidableEq, Repr

/-- A trip record (R118). -/
structure TripRecord where
  state : TripState
  persistenceCount : Nat
  clearCount : Nat
  causePresent : Bool
  setSecond : Option Word32
  circuitAtSet : Option Circuit
  valueAtSet : Option Int
  readSinceSet : Bool
  snapshot : Option TripEntry
deriving DecidableEq, Repr

/-- The trip unit's state (R118, R122, R123, R124). -/
structure TripUnit where
  records : Vector TripRecord 32
  permits : Vector Permit 6
  latchedCuts : Vector Bool 6
  stopLatch : Bool
  causePin : Bool
  causeRow : Bool
deriving DecidableEq, Repr

/-! ### Tap arbiter (chapter 8) -/

/-- The seven findings of a readiness record, in the order of R132. -/
structure Findings where
  stage : Bool
  dip : Bool
  estimate : Bool
  chemistry : Bool
  permit : Bool
  mass : Bool
  freeze : Bool
deriving DecidableEq, Repr

/-- A readiness record (R132); the all-met flag is derived from the findings. -/
structure Readiness where
  met : Findings
  evaluatedAt : Option Word32
deriving DecidableEq, Repr

/-- A tap queue entry (R136). -/
structure TapEntry where
  furnace : Furnace
  heatId : Word32
  second : Word32
deriving DecidableEq, Repr

/-- The state of the pour station (R139). -/
inductive StationState where
  | free
  | granted
  | pouring
deriving DecidableEq, Repr

/-- The outcome of a release, in the order of R139. -/
inductive ReleaseOutcome where
  | poured
  | tapCancelled
  | tapLapsed
  | tapCut
  | tapStopped
  | tapReset
deriving DecidableEq, Repr

/-- The granted furnace, heat id and grant second (R139), held together and absent together (log 32). -/
structure Grant where
  furnace : Furnace
  heatId : Word32
  second : Word32
deriving DecidableEq, Repr

/-- The last POUR_REPORT read (R139). -/
structure StationReport where
  tilt : Nat
  weight : Nat
  second : Word32
deriving DecidableEq, Repr

/-- The last release (R139). -/
structure Release where
  furnace : Furnace
  heatId : Word32
  second : Word32
  outcome : ReleaseOutcome
  overdue : Bool
deriving DecidableEq, Repr

/-- The pour station record (R139). -/
structure Station where
  state : StationState
  grant : Option Grant
  tapTimer : Option Timer
  tare : Nat
  lastReport : Option StationReport
  quiet : Bool
  overdue : Bool
  silent : Bool
  lastRelease : Option Release
deriving DecidableEq, Repr

/-- The tilt permit holding (R142). -/
structure TiltHolding where
  on : Bool
  urgent : Bool
  furnace : Furnace
  heatId : Word32
deriving DecidableEq, Repr

/-- The tap arbiter's state (R132, R133, R136, R139, R142, R143). -/
structure TapArbiter where
  readiness : Vector Readiness 6
  queue : List TapEntry
  station : Station
  tiltHolding : Option TiltHolding
  pourInvalid : Nat
  readinessTimer : Timer
  silenceTimer : Option Timer
deriving DecidableEq, Repr

/-! ### Frame path (chapter 9) -/

/-- A frame with a good check (R154): the delimiter, the length and the check follow from these fields. -/
structure Frame where
  dst : Byte
  src : Byte
  kind : Byte
  payload : List Byte
deriving DecidableEq, Repr

/-- The NORMAL class served last at an egress (R152, R158). -/
inductive Served where
  | forwarded
  | originated
deriving DecidableEq, Repr

/-- The nine counters of a port (R160). -/
structure Counters where
  framesIn : Nat := 0
  framesOut : Nat := 0
  crcDrops : Nat := 0
  lengthDrops : Nat := 0
  overflowDrops : Nat := 0
  foreignDrops : Nat := 0
  ungoverned : Nat := 0
  unmapped : Nat := 0
  clamped : Nat := 0
deriving DecidableEq, Repr

/-- What an egress serves (R158). -/
inductive TxSource where
  | tilt
  | setpoint (f : Furnace)
  | reply
  | status
  | forwarded
deriving DecidableEq, Repr

/-- A transmission under way (R158). -/
structure Transmission where
  source : TxSource
  frame : Frame
deriving DecidableEq, Repr

/-- The two control symbols that the part sends between its frames (R151). -/
inductive Control where
  | hold
  | go
deriving DecidableEq, Repr

/-- The state of one port (R152, R158, R160). `liveness` says whether the 20 ms timer runs. The part's own control symbols that wait
for the next gap between its frames stand in `controls`, oldest first; `controlSent` is the one that left last (R151; log 33). -/
structure PortState where
  up : Bool
  liveness : Bool
  holdSent : Bool
  controls : List Control
  controlSent : Option Control
  heldOff : Bool
  lastServed : Served
  counters : Counters
  receiving : Bool
  tx : Option Transmission
deriving DecidableEq, Repr

/-- The frame path's state (R152, R157). `toField` is served at the FIELD egress and fed by PLANT. -/
structure FramePath where
  plant : PortState
  field : PortState
  toField : List Frame
  toPlant : List Frame
deriving DecidableEq, Repr

/-! ### Management responder (chapter 10) -/

/-- The management responder's state (R163, R166, R168). -/
structure Responder where
  replies : List Frame
  statusHolding : Option Frame
  warmPending : Bool
  replyOverflow : Nat
  statusTimer : Timer
deriving DecidableEq, Repr

/-! ### The part -/

/-- The whole part. `pending` is the queue of commands that wait, first in, first out. -/
structure State where
  clock : Word32
  resetLow : Bool
  estopAsserted : Bool
  store : TableStore
  heat : HeatTracker
  gov : Governor
  cool : CoolingMonitor
  trip : TripUnit
  tap : TapArbiter
  link : FramePath
  resp : Responder
  pending : List Instr
deriving DecidableEq, Repr

/-- Why the part could stop: nothing in the manual stops it, so no meaning raises this. -/
inductive Fault where
  /-- Raised by no meaning (safe: it never occurs); the interface asks for a type. -/
  | none
deriving DecidableEq, Repr

/-- Why a command could be refused. A management request refused by the part is no refusal of the model: its reply is
state. -/
inductive Refusal where
  /-- Raised by an arm of `exec` that has no meaning yet (safe); no arm is. -/
  | notModelled (mnemonic : String)
deriving DecidableEq, Repr

/-! ### Cold reset -/

/-- A table whose two banks hold the same contents, bank A active (R1). -/
def Banked.cold {α : Type} (contents : α) : Banked α := { bankA := contents, bankB := contents }

/-- The table store after cold reset (R1). -/
def TableStore.cold : TableStore where
  shop := Banked.cold {}
  unit := Banked.cold (Vector.replicate 3 {})
  furnace := Banked.cold (Vector.replicate 6 {})
  programme := Banked.cold (Vector.replicate 8 {})
  channel := Banked.cold (Vector.replicate 64 {})
  circuit := Banked.cold (Vector.replicate 16 {})
  trip := Banked.cold (Vector.replicate 32 {})
  mode := .unconfigured
  moving := Vector.replicate 6 false

/-- A 1 s timer started at the release of cold reset. -/
def Timer.atRelease : Timer := { start := 0, length := 1 }

/-- The heat tracker after cold reset (R42, R61). -/
def HeatTracker.cold : HeatTracker where
  heats := Vector.replicate 6 none
  dipWindows := Vector.replicate 6 none
  closedLog := []
  nextHeatId := 1
  dipInvalid := 0
  dipUnmatched := 0
  integrationTimers := Vector.replicate 6 Timer.atRelease

/-- The window record after cold reset (R62). -/
def WindowRecord.cold : WindowRecord where
  number := 0
  elapsed := 0
  used := 0
  overrun := 0
  peak := 0
  syncCount := 0
  demandOverrun := false
  issuedTotal := 0
  floorExcess := 0
  missedSyncs := 0
  ignoredSyncs := 0
  budget := 0
  remaining := 900

/-- One furnace's state in the governor after cold reset (R99). -/
def FurnacePower.cold : FurnacePower where
  issued := 0
  inForce := 0
  request := none
  lastSent := 0
  holding := none
  refresh := none
  report := none

/-- The demand governor after cold reset (R78, R99): the plant silence timer starts with the 10 s of R3. -/
def Governor.cold : Governor where
  window := WindowRecord.cold
  history := []
  allowance := 0
  furnaces := Vector.replicate 6 FurnacePower.cold
  allocationTimer := Timer.atRelease
  plantSilence := some { start := 0, length := 10 }

/-- The initial contents of a circuit record (R100). -/
def CircuitRecord.initial : CircuitRecord where
  present := false
  flow := { value := none, age := 255 }
  inlet := { value := none, age := 255 }
  outlet := { value := none, age := 255 }
  deltaT := none
  span := none
  lastSpan := none
  bad := 0
  spanTimer := none

/-- The cooling monitor after cold reset (R113). -/
def CoolingMonitor.cold : CoolingMonitor where
  circuits := Vector.replicate 16 CircuitRecord.initial
  sampleInvalid := 0
  ageTimer := Timer.atRelease

/-- A trip record after cold reset (R118). -/
def TripRecord.cold : TripRecord where
  state := .idle
  persistenceCount := 0
  clearCount := 0
  causePresent := false
  setSecond := none
  circuitAtSet := none
  valueAtSet := none
  readSinceSet := false
  snapshot := none

/-- The trip unit after cold reset with ESTOP_N deasserted (R131). -/
def TripUnit.cold : TripUnit where
  records := Vector.replicate 32 TripRecord.cold
  permits := Vector.replicate 6 .permitted
  latchedCuts := Vector.replicate 6 false
  stopLatch := false
  causePin := false
  causeRow := false

/-- A readiness record after cold reset (R132). -/
def Readiness.cold : Readiness where
  met := ⟨false, false, false, false, false, false, false⟩
  evaluatedAt := none

/-- The pour station record after cold reset (R139). -/
def Station.cold : Station where
  state := .free
  grant := none
  tapTimer := none
  tare := 0
  lastReport := none
  quiet := true
  overdue := false
  silent := false
  lastRelease := none

/-- The tap arbiter after cold reset (R149). -/
def TapArbiter.cold : TapArbiter where
  readiness := Vector.replicate 6 Readiness.cold
  queue := []
  station := Station.cold
  tiltHolding := none
  pourInvalid := 0
  readinessTimer := Timer.atRelease
  silenceTimer := none

/-- A port after cold reset (R161). -/
def PortState.cold : PortState where
  up := false
  liveness := false
  holdSent := false
  controls := []
  controlSent := none
  heldOff := false
  lastServed := .originated
  counters := {}
  receiving := false
  tx := none

/-- The frame path after cold reset (R161). -/
def FramePath.cold : FramePath where
  plant := PortState.cold
  field := PortState.cold
  toField := []
  toPlant := []

/-- The management responder after cold reset (R163, R166): the status timer starts with the 1 s of R3. -/
def Responder.cold : Responder where
  replies := []
  statusHolding := none
  warmPending := false
  replyOverflow := 0
  statusTimer := { start := 0, length := 1 }

/-- The part right after the rising edge of RESET_N with ESTOP_N deasserted (R170; log 5), no command waiting. -/
def State.reset : State where
  clock := 0
  resetLow := false
  estopAsserted := false
  store := TableStore.cold
  heat := HeatTracker.cold
  gov := Governor.cold
  cool := CoolingMonitor.cold
  trip := TripUnit.cold
  tap := TapArbiter.cold
  link := FramePath.cold
  resp := Responder.cold
  pending := []

end Sys2Proof.Machine
end

