-- ==== Sys2Proof/Machine/Ops.lean ====
section
/-! DEFINITION. Operations every block shares: saturating and clamped arithmetic (00_scope.md, Arithmetic), ages and
timers, little-endian fields, the frame check and layout (R154, R155), and the reads and writes of each block's records. -/

namespace Sys2Proof.Machine

/-! ### Arithmetic -/

/-- A count or sum that would pass its largest value stays at that value (00_scope.md, "Saturating"). -/
def satAdd (largest a b : Nat) : Nat := min largest (a + b)

/-- 00_scope.md, "Clamped to a range". -/
def clampInt (lo hi x : Int) : Int := max lo (min hi x)

/-- Division by floor for a positive divisor: `/` on integers rounds toward minus infinity there (R46, R103). -/
def floorDiv (a : Int) (b : Nat) : Int := a / (b : Int)

/-- Replace one item of a fixed collection by a function of it. -/
def modifyAt {α : Type} {n : Nat} (v : Vector α n) (i : Fin n) (g : α → α) : Vector α n := v.set i (g v[i])

/-- Apply a function to every item of a fixed collection. -/
def mapEach {α β : Type} {n : Nat} (v : Vector α n) (g : Fin n → α → β) : Vector β n := Vector.ofFn fun i => g i v[i]

/-- F1 to F6 in increasing number. -/
def furnaces : List Furnace := List.finRange 6

/-- U1 to U3 in increasing number. -/
def powerUnits : List PowerUnit := List.finRange 3

/-- C1 to C16 in increasing number. -/
def circuits : List Circuit := List.finRange 16

/-- T1 to T32 in increasing number. -/
def tripRows : List TripRow := List.finRange 32

/-- The number of a furnace, unit, circuit or row as the link carries it, counted from 1. -/
def numberByte {n : Nat} (i : Fin n) : Byte := BitVec.ofNat 8 (i.val + 1)

/-- The item a number byte names, counted from 1; none for 0 and for a number too large. -/
def ofNumberByte (n : Nat) (b : Byte) : Option (Fin n) :=
  if h : 1 ≤ b.toNat ∧ b.toNat ≤ n then some ⟨b.toNat - 1, by omega⟩ else none

/-! ### Time -/

/-- The age of an item: the present shop second minus the second stored with it (00_scope.md, "Shop clock"; log 6). -/
def age (now second : Word32) : Nat := (now - second).toNat

/-- The remaining seconds of a running timer (log 1). -/
def Timer.remainingAt (now : Word32) (t : Timer) : Nat := t.length - age now t.start

/-- The remaining seconds reported of a timer that may be stopped: 0 when stopped (R150, R165). -/
def remainingSeconds (now : Word32) (t : Option Timer) : Nat :=
  match t with
  | some t => t.remainingAt now
  | none => 0

/-- Start a timer now with a length in seconds. -/
def State.startTimer (s : State) (length : Nat) : Timer := { start := s.clock, length := length }

/-! ### Little-endian fields (00_scope.md, "Byte order") -/

def le16 (h : Half) : List Byte := [h.extractLsb' 0 8, h.extractLsb' 8 8]

def le32 (w : Word32) : List Byte :=
  [w.extractLsb' 0 8, w.extractLsb' 8 8, w.extractLsb' 16 8, w.extractLsb' 24 8]

def enc8 (n : Nat) : List Byte := [BitVec.ofNat 8 n]

def enc16 (n : Nat) : List Byte := le16 (BitVec.ofNat 16 n)

def enc32 (n : Nat) : List Byte := le32 (BitVec.ofNat 32 n)

/-- A signed 16-bit field. -/
def encInt16 (i : Int) : List Byte := le16 (BitVec.ofInt 16 i)

/-- A flag byte or presence byte: 0 clear, 1 set. -/
def encFlag (b : Bool) : List Byte := enc8 b.toNat

/-- A byte of flags, bit 0 first. -/
def flagBits (bits : List Bool) : Nat := bits.foldr (fun b n => 2 * n + b.toNat) 0

/-- A field of absent items: zeros (R165). -/
def zeros (n : Nat) : List Byte := List.replicate n 0

def byteAt (bs : List Byte) (i : Nat) : Byte := bs.getD i 0

def halfAt (bs : List Byte) (i : Nat) : Half := byteAt bs (i + 1) ++ byteAt bs i

def wordAt (bs : List Byte) (i : Nat) : Word32 := halfAt bs (i + 2) ++ halfAt bs i

/-! ### Frames (R154, R155) -/

/-- One bit of the check: generator x^16 + x^12 + x^5 + 1, most significant bit first. -/
def crcBit (c : Half) : Half := if c.msb then (c <<< 1) ^^^ 0x1021 else c <<< 1

def crcByte (c : Half) (b : Byte) : Half := Nat.repeat crcBit 8 (c ^^^ (b.setWidth 16 <<< 8))

/-- The check of R154 over a list of bytes: it starts from 0xFFFF and is neither reflected nor inverted. -/
def crc16 (bs : List Byte) : Half := bs.foldl crcByte 0xFFFF

/-- Bytes 1 to 4 + L of a frame. -/
def Frame.body (f : Frame) : List Byte :=
  f.dst :: f.src :: f.kind :: BitVec.ofNat 8 f.payload.length :: f.payload

/-- Every byte of a frame between its start and end symbols (R154). -/
def Frame.bytes (f : Frame) : List Byte := Config.startDelimiter :: (f.body ++ le16 (crc16 f.body))

/-- Why a frame is dropped at its end symbol (R155). -/
inductive FrameDrop where
  | length
  | crc
deriving DecidableEq, Repr

/-- The ingress checks of R155, in their order, on the bytes between the start and end symbols. -/
def Frame.parse (bytes : List Byte) : Except FrameDrop Frame :=
  match bytes with
  | d :: dst :: src :: kind :: len :: rest =>
    if d ≠ Config.startDelimiter then .error .length
    else if len.toNat > Config.maxPayload ∨ rest.length ≠ len.toNat + 2 then .error .length
    else if rest.drop len.toNat = le16 (crc16 (dst :: src :: kind :: len :: rest.take len.toNat)) then
      .ok { dst := dst, src := src, kind := kind, payload := rest.take len.toNat }
    else .error .crc
  | _ => .error .length

/-! ### Reads and writes of records -/

/-- The current-heat record of a furnace (R19); none while it is EMPTY. -/
def State.heatOf (s : State) (f : Furnace) : Option Heat := s.heat.heats[f]

def State.setHeat (s : State) (f : Furnace) (h : Option Heat) : State :=
  { s with heat := { s.heat with heats := s.heat.heats.set f h } }

/-- Change the record of an open heat; an EMPTY furnace stays EMPTY. -/
def State.modifyHeat (s : State) (f : Furnace) (g : Heat → Heat) : State := s.setHeat f ((s.heatOf f).map g)

/-- Change every open heat. -/
def State.mapHeats (s : State) (g : Furnace → Heat → Heat) : State :=
  { s with heat := { s.heat with heats := mapEach s.heat.heats fun f h => h.map (g f) } }

/-- The dip window of a furnace: its running dip timer, none while it is closed (R49). -/
def State.dipWindow (s : State) (f : Furnace) : Option Timer := s.heat.dipWindows[f]

def State.setDipWindow (s : State) (f : Furnace) (t : Option Timer) : State :=
  { s with heat := { s.heat with dipWindows := s.heat.dipWindows.set f t } }

/-- The governor's state of one furnace (R79). -/
def State.powerOf (s : State) (f : Furnace) : FurnacePower := s.gov.furnaces[f]

def State.setPower (s : State) (f : Furnace) (p : FurnacePower) : State :=
  { s with gov := { s.gov with furnaces := s.gov.furnaces.set f p } }

def State.mapPowers (s : State) (g : Furnace → FurnacePower → FurnacePower) : State :=
  { s with gov := { s.gov with furnaces := mapEach s.gov.furnaces g } }

def State.setWindow (s : State) (w : WindowRecord) : State := { s with gov := { s.gov with window := w } }

/-- The permit of a furnace as last derived (R122). -/
def State.permitOf (s : State) (f : Furnace) : Permit := s.trip.permits[f]

def State.setStation (s : State) (st : Station) : State := { s with tap := { s.tap with station := st } }

/-- The state of a port. -/
def State.port (s : State) : Port → PortState
  | .plant => s.link.plant
  | .field => s.link.field

def State.setPort (s : State) (p : Port) (x : PortState) : State :=
  match p with
  | .plant => { s with link := { s.link with plant := x } }
  | .field => { s with link := { s.link with field := x } }

def State.modifyPort (s : State) (p : Port) (g : PortState → PortState) : State := s.setPort p (g (s.port p))

/-- Count in one of a port's counters. -/
def State.countPort (s : State) (p : Port) (g : Counters → Counters) : State :=
  s.modifyPort p fun x => { x with counters := g x.counters }

/-- The forward queue whose egress is `p` (R157). -/
def State.queueTo (s : State) : Port → List Frame
  | .plant => s.link.toPlant
  | .field => s.link.toField

def State.setQueueTo (s : State) (p : Port) (q : List Frame) : State :=
  match p with
  | .plant => { s with link := { s.link with toPlant := q } }
  | .field => { s with link := { s.link with toField := q } }

/-- Add 1 to a 16-bit saturating counter. -/
def count16 (n : Nat) : Nat := satAdd Config.max16 n 1

end Sys2Proof.Machine
end

