-- ==== Sys2Proof/Machine/Operands.lean ====
section
/-! DEFINITION. What raw fields mean: the enumerations of the table fields (R159: in the order listed, from 0), the
encodings of whole table entries (R159), the banks (R1), the furnaces that units feed (R5, R80), and the answers of
management requests (R159, R164). -/

namespace Sys2Proof.Machine

/-! ### Enumerations of table fields

A byte past the last value is refused at validation, so it never stands in an entry in force; it reads as the last value
(log 10). -/

inductive WindowMode where
  | free
  | sync
  | syncEveryN
deriving DecidableEq, Repr

/-- SHOP field 4 (R3). -/
def ShopEntry.mode (e : ShopEntry) : WindowMode :=
  if e.windowMode = 0 then .free else if e.windowMode = 1 then .sync else .syncEveryN

/-- The owner of a circuit, or the scope of a trip row, with the number it names (R8, R9). -/
inductive Scope where
  | circuit (n : Byte)
  | furnace (n : Byte)
  | unit (n : Byte)
  | shop
deriving DecidableEq, Repr

/-- CIRCUIT fields 2 and 3 (R8). -/
def CircuitEntry.owner (e : CircuitEntry) : Scope :=
  if e.ownerKind = 0 then .furnace e.ownerNumber else if e.ownerKind = 1 then .unit e.ownerNumber else .shop

/-- TRIP fields 2 and 3 (R9). -/
def TripEntry.scope (e : TripEntry) : Scope :=
  if e.scopeKind = 0 then .circuit e.scopeNumber else if e.scopeKind = 1 then .furnace e.scopeNumber
  else if e.scopeKind = 2 then .unit e.scopeNumber else .shop

inductive Quantity where
  | flow
  | inlet
  | outlet
  | deltaT
  | flowSpan
deriving DecidableEq, Repr

/-- CHANNEL field 5 (R7): FLOW, INLET or OUTLET. -/
def ChannelEntry.measures (e : ChannelEntry) : Quantity :=
  if e.quantity = 0 then .flow else if e.quantity = 1 then .inlet else .outlet

/-- TRIP field 4 (R9). -/
def TripEntry.watches (e : TripEntry) : Quantity :=
  if e.quantity = 0 then .flow else if e.quantity = 1 then .inlet else if e.quantity = 2 then .outlet
  else if e.quantity = 3 then .deltaT else .flowSpan

inductive Condition where
  | high
  | notHigh
  | low
  | notLow
  | outside
  | inside
  | stale
  | fault
deriving DecidableEq, Repr

/-- TRIP field 5 (R9). -/
def TripEntry.test (e : TripEntry) : Condition :=
  if e.condition = 0 then .high else if e.condition = 1 then .notHigh else if e.condition = 2 then .low
  else if e.condition = 3 then .notLow else if e.condition = 4 then .outside else if e.condition = 5 then .inside
  else if e.condition = 6 then .stale else .fault

inductive TripAction where
  | note
  | shed
  | cut
  | shopStop
deriving DecidableEq, Repr

/-- TRIP field 9 (R9). -/
def TripEntry.acts (e : TripEntry) : TripAction :=
  if e.action = 0 then .note else if e.action = 1 then .shed else if e.action = 2 then .cut else .shopStop

/-- TRIP field 10 is SELF_CLEAR (R9: LATCH 0, SELF_CLEAR 1). -/
def TripEntry.selfClears (e : TripEntry) : Bool := e.latching ≠ 0

/-! ### Banks (R1, R12) -/

def BankName.other : BankName → BankName
  | .a => .b
  | .b => .a

def Banked.bank {α : Type} (t : Banked α) : BankName → α
  | .a => t.bankA
  | .b => t.bankB

/-- The bank its readers use. -/
def Banked.active {α : Type} (t : Banked α) : α := t.bank t.activeBank

/-- The bank that receives the host's writes. -/
def Banked.shadow {α : Type} (t : Banked α) : α := t.bank t.activeBank.other

def Banked.setShadow {α : Type} (t : Banked α) (x : α) : Banked α :=
  match t.activeBank with
  | .a => { t with bankB := x }
  | .b => { t with bankA := x }

/-- The companion bank (R3, R4, R8), which is also the bank the pending swaps will put in force (R14): the shadow if a
swap is pending, the active bank otherwise. -/
def Banked.companion {α : Type} (t : Banked α) : α := if t.swapPending then t.shadow else t.active

/-- A swap of a table, R12 steps 1 to 3. -/
def Banked.exchange {α : Type} (t : Banked α) : Banked α :=
  { t with activeBank := t.activeBank.other, swapPending := false, swapCount := count16 t.swapCount }

/-- Warm reset of a table's swap (R18). -/
def Banked.cancel {α : Type} (t : Banked α) : Banked α := { t with swapPending := false }

/-- The seven tables (R1). -/
inductive TableId where
  | shop
  | unit
  | furnace
  | programme
  | channel
  | circuit
  | trip
deriving DecidableEq, Repr

/-- Table numbers 1 to 7 (R1). -/
def TableId.ofByte (b : Byte) : Option TableId :=
  if b = 1 then some .shop else if b = 2 then some .unit else if b = 3 then some .furnace
  else if b = 4 then some .programme else if b = 5 then some .channel else if b = 6 then some .circuit
  else if b = 7 then some .trip else none

/-- The first entry number of a table (R1). -/
def TableId.firstNumber : TableId → Nat
  | .programme => 0
  | _ => 1

/-- The number of entries of a table (R1). -/
def TableId.entries : TableId → Nat
  | .shop => 1
  | .unit => 3
  | .furnace => 6
  | .programme => 8
  | .channel => 64
  | .circuit => 16
  | .trip => 32

/-- Entry sizes in bytes (R159). -/
def TableId.entrySize : TableId → Nat
  | .shop => 21
  | .unit => 6
  | .furnace => 27
  | .programme => 23
  | .channel => 13
  | .circuit => 11
  | .trip => 12

/-- The most entries one TABLE_READ reply carries (R13). -/
def TableId.readLimit : TableId → Nat
  | .shop => 1
  | .unit => 3
  | .furnace => 4
  | .programme => 4
  | .channel => 8
  | .circuit => 10
  | .trip => 9

/-! ### Entry encodings (R159) -/

def ShopEntry.encode (e : ShopEntry) : List Byte :=
  [e.partAddress] ++ le16 e.ceiling ++ le16 e.windowLength ++ [e.windowMode, e.syncsPerWindow, e.syncGuard]
    ++ le32 e.peakCap ++ [e.boostLimit, e.requestLifetime, e.plantSilence, e.statusPeriod, e.pourNode]
    ++ le16 e.tapWindow ++ [e.restAngle, e.pourSilence]

def ShopEntry.decode (b : List Byte) : ShopEntry where
  partAddress := byteAt b 0
  ceiling := halfAt b 1
  windowLength := halfAt b 3
  windowMode := byteAt b 5
  syncsPerWindow := byteAt b 6
  syncGuard := byteAt b 7
  peakCap := wordAt b 8
  boostLimit := byteAt b 12
  requestLifetime := byteAt b 13
  plantSilence := byteAt b 14
  statusPeriod := byteAt b 15
  pourNode := byteAt b 16
  tapWindow := halfAt b 17
  restAngle := byteAt b 19
  pourSilence := byteAt b 20

def UnitEntry.encode (e : UnitEntry) : List Byte :=
  [e.present, e.node] ++ le16 e.rating ++ [e.output1, e.output2]

def UnitEntry.decode (b : List Byte) : UnitEntry where
  present := byteAt b 0
  node := byteAt b 1
  rating := halfAt b 2
  output1 := byteAt b 4
  output2 := byteAt b 5

def FurnaceEntry.encode (e : FurnaceEntry) : List Byte :=
  [e.present, e.unit, e.output] ++ le16 e.rating ++ le16 e.ramp ++ [e.weight] ++ le16 e.holdFloor ++ le16 e.boost
    ++ le16 e.efficiency ++ le16 e.loss ++ le16 e.capacity ++ le16 e.heelMinimum ++ le16 e.minTapMass
    ++ le16 e.dipCap ++ [e.dipTimeout] ++ le16 e.freezeLimit

def FurnaceEntry.decode (b : List Byte) : FurnaceEntry where
  present := byteAt b 0
  unit := byteAt b 1
  output := byteAt b 2
  rating := halfAt b 3
  ramp := halfAt b 5
  weight := byteAt b 7
  holdFloor := halfAt b 8
  boost := halfAt b 10
  efficiency := halfAt b 12
  loss := halfAt b 14
  capacity := halfAt b 16
  heelMinimum := halfAt b 18
  minTapMass := halfAt b 20
  dipCap := halfAt b 22
  dipTimeout := byteAt b 24
  freezeLimit := halfAt b 25

def ProgrammeEntry.encode (e : ProgrammeEntry) : List Byte :=
  [e.present] ++ le16 e.meltOut ++ le16 e.meltEnergy ++ le16 e.specificHeat ++ le16 e.holdTarget ++ le16 e.bandLow
    ++ le16 e.bandHigh ++ le16 e.tapLow ++ le16 e.tapHigh ++ le16 e.dipValidity ++ le16 e.acceptanceLifetime
    ++ le16 e.holdInterval

def ProgrammeEntry.decode (b : List Byte) : ProgrammeEntry where
  present := byteAt b 0
  meltOut := halfAt b 1
  meltEnergy := halfAt b 3
  specificHeat := halfAt b 5
  holdTarget := halfAt b 7
  bandLow := halfAt b 9
  bandHigh := halfAt b 11
  tapLow := halfAt b 13
  tapHigh := halfAt b 15
  dipValidity := halfAt b 17
  acceptanceLifetime := halfAt b 19
  holdInterval := halfAt b 21

def ChannelEntry.encode (e : ChannelEntry) : List Byte :=
  [e.present, e.node, e.channel, e.circuit, e.quantity] ++ le16 e.gain ++ le16 e.offset ++ le16 e.rawMin
    ++ le16 e.rawMax

def ChannelEntry.decode (b : List Byte) : ChannelEntry where
  present := byteAt b 0
  node := byteAt b 1
  channel := byteAt b 2
  circuit := byteAt b 3
  quantity := byteAt b 4
  gain := halfAt b 5
  offset := halfAt b 7
  rawMin := halfAt b 9
  rawMax := halfAt b 11

def CircuitEntry.encode (e : CircuitEntry) : List Byte :=
  [e.present, e.ownerKind, e.ownerNumber] ++ le16 e.flowDeadband ++ le16 e.inletDeadband ++ le16 e.outletDeadband
    ++ [e.maxAge, e.spanPeriod]

def CircuitEntry.decode (b : List Byte) : CircuitEntry where
  present := byteAt b 0
  ownerKind := byteAt b 1
  ownerNumber := byteAt b 2
  flowDeadband := halfAt b 3
  inletDeadband := halfAt b 5
  outletDeadband := halfAt b 7
  maxAge := byteAt b 9
  spanPeriod := byteAt b 10

def TripEntry.encode (e : TripEntry) : List Byte :=
  [e.present, e.scopeKind, e.scopeNumber, e.quantity, e.condition] ++ le16 e.thresholdA ++ le16 e.thresholdB
    ++ [e.persistence, e.action, e.latching]

def TripEntry.decode (b : List Byte) : TripEntry where
  present := byteAt b 0
  scopeKind := byteAt b 1
  scopeNumber := byteAt b 2
  quantity := byteAt b 3
  condition := byteAt b 4
  thresholdA := halfAt b 5
  thresholdB := halfAt b 7
  persistence := byteAt b 9
  action := byteAt b 10
  latching := byteAt b 11

/-! ### Units and furnaces -/

/-- The furnace number on an output of a unit; 0 for an output that is none or is not 1 or 2 (R4). -/
def UnitEntry.outputNumber (u : UnitEntry) (output : Byte) : Byte :=
  if output = 1 then u.output1 else if output = 2 then u.output2 else 0

/-- The unit a furnace entry names. -/
def FurnaceEntry.unitIndex (e : FurnaceEntry) : Option PowerUnit := ofNumberByte 3 e.unit

/-- R5: a furnace is configured when it is present, the unit it names is present, and that unit's output names it. -/
def isConfigured (units : Vector UnitEntry 3) (entries : Vector FurnaceEntry 6) (f : Furnace) : Bool :=
  entries[f].present != 0 &&
    match entries[f].unitIndex with
    | some u => units[u].present != 0 && units[u].outputNumber entries[f].output == numberByte f
    | none => false

/-- The furnace is configured in the active banks. -/
def State.configured (s : State) (f : Furnace) : Bool :=
  isConfigured s.store.unit.active s.store.furnace.active f

/-- The active FURNACE entry of a furnace. -/
def State.furnaceEntry (s : State) (f : Furnace) : FurnaceEntry := s.store.furnace.active[f]

/-- The active SHOP entry. -/
def State.shopEntry (s : State) : ShopEntry := s.store.shop.active

/-- The active PROGRAMME entry of an index. -/
def State.programmeEntry (s : State) (p : Fin 8) : ProgrammeEntry := s.store.programme.active[p]

/-- R80, R83, R95: the configured furnace fed by a node and an output, in the active banks. -/
def State.fedBy (s : State) (node output : Byte) : Option Furnace :=
  match powerUnits.find? fun u => s.store.unit.active[u].present != 0 && s.store.unit.active[u].node == node with
  | some u =>
    match ofNumberByte 6 (s.store.unit.active[u].outputNumber output) with
    | some f => if s.configured f then some f else none
    | none => none
  | none => none

/-! ### Answers of management requests -/

/-- The statuses of R164. -/
inductive Status where
  | ok
  | badRequest
  | badArg
  | badState
  | unconfigured
  | staleHeat
  | causePresent
  | notRead
  | duplicate
  | inPour
  | swapPending
  | invalidEntry
deriving DecidableEq, Repr

/-- The status byte (R164). -/
def Status.code : Status → Byte
  | .ok => 0
  | .badRequest => 1
  | .badArg => 2
  | .badState => 3
  | .unconfigured => 4
  | .staleHeat => 5
  | .causePresent => 6
  | .notRead => 7
  | .duplicate => 8
  | .inPour => 9
  | .swapPending => 10
  | .invalidEntry => 11

/-- What an owning block returns: a status, flags and data (R162 step 4). -/
structure Answer where
  status : Status
  clamped : Bool := false
  adjusted : Bool := false
  merged : Bool := false
  data : List Byte := []
deriving DecidableEq, Repr

/-- The payload of a MGMT_REPLY (R159). The flags byte is 0 in a refused reply (R164). -/
def Answer.payload (a : Answer) (code tag : Byte) : List Byte :=
  [code, tag, a.status.code] ++ enc8 (if a.status = .ok then flagBits [a.clamped, a.adjusted, a.merged] else 0) ++ a.data

/-- A refusal of a request: the reply with this status, no state changed (R164). -/
def refuse (s : State) (st : Status) (data : List Byte := []) : Answer × State := ({ status := st, data := data }, s)

end Sys2Proof.Machine
end

