-- ==== Sys2Proof/Machine/Flags.lean ====
section
/-! DEFINITION. Every flag, finding and verdict the manual computes from state: OVERFILL (R24), the trip flags and
verdicts (R114 to R116), the cover of a row (R114), the permits (R122) and the readiness findings (R132). -/

namespace Sys2Proof.Machine

/-! ### Heats -/

/-- OVERFILL: the bath mass exceeds the capacity in the active FURNACE bank (R24). -/
def overfillFlag (s : State) (f : Furnace) (bathMass : Nat) : Bool := decide ((s.furnaceEntry f).capacity.toNat < bathMass)

/-- Boost slots in use: the number of heats in BOOST (R54). -/
def boostSlotsInUse (s : State) : Nat :=
  furnaces.countP fun f => match s.heatOf f with
    | some h => h.holdMode = .boost
    | none => false

/-- Any heat is open (R9). -/
def anyHeatOpen (s : State) : Bool := furnaces.any fun f => (s.heatOf f).isSome

/-! ### Trip rows (R114 to R116) -/

/-- The three flags of a quantity of one circuit (R115). -/
structure TripFlags where
  hi : Bool
  lo : Bool
  st : Bool
deriving DecidableEq, Repr

/-- The value x of a quantity (R115). -/
def CircuitRecord.valueOf (r : CircuitRecord) : Quantity → Option Int
  | .flow => r.flow.value
  | .inlet => r.inlet.value
  | .outlet => r.outlet.value
  | .deltaT => r.deltaT
  | .flowSpan => r.lastSpan.map Int.ofNat

/-- The age of DELTA_T: the larger of the inlet age and the outlet age (R100). -/
def CircuitRecord.deltaAge (r : CircuitRecord) : Nat := max r.inlet.age r.outlet.age

/-- The age of a quantity (R115). -/
def CircuitRecord.ageOf (r : CircuitRecord) : Quantity → Nat
  | .flow => r.flow.age
  | .inlet => r.inlet.age
  | .outlet => r.outlet.age
  | .deltaT => r.deltaAge
  | .flowSpan => r.flow.age

/-- HI, LO and ST of a row's quantity on one circuit (R115). -/
def tripFlags (row : TripEntry) (entry : CircuitEntry) (r : CircuitRecord) : TripFlags where
  hi := match r.valueOf row.watches with
    | some x => decide (row.thresholdA.toInt < x)
    | none => false
  lo := match r.valueOf row.watches with
    | some x => decide (x < row.thresholdB.toInt)
    | none => false
  st := decide (entry.maxAge.toNat < r.ageOf row.watches)

/-- The verdict for one circuit (R116). -/
def Condition.verdict (c : Condition) (g : TripFlags) : Bool :=
  match c with
  | .high => g.hi
  | .notHigh => !g.hi
  | .low => g.lo
  | .notLow => !g.lo
  | .outside => g.hi || g.lo
  | .inside => !g.hi && !g.lo
  | .stale => g.st
  | .fault => g.st || g.hi || g.lo

/-- A circuit is in service while its record is present (R100). -/
def State.inService (s : State) (c : Circuit) : Bool := s.cool.circuits[c].present

/-- The circuit is one of the circuits of the row (R114). -/
def inScope (s : State) (row : TripEntry) (c : Circuit) : Bool :=
  s.inService c &&
    match row.scope with
    | .circuit n => ofNumberByte 16 n == some c
    | sc => s.store.circuit.active[c].owner == sc

/-- The circuits of a row, lowest number first (R114). -/
def rowCircuits (s : State) (row : TripEntry) : List Circuit := circuits.filter (inScope s row)

/-- The flags of a row on one circuit as the record stands (R115). -/
def rowFlags (s : State) (row : TripEntry) (c : Circuit) : TripFlags :=
  tripFlags row s.store.circuit.active[c] s.cool.circuits[c]

/-- The circuit at fault: the lowest-numbered circuit of the row that is true (R116). -/
def circuitAtFault (s : State) (row : TripEntry) : Option Circuit :=
  (rowCircuits s row).find? fun c => row.test.verdict (rowFlags s row c)

/-- An evaluation of the row is true (R116). -/
def rowTrue (s : State) (row : TripEntry) : Bool := (circuitAtFault s row).isSome

/-- The row in force of a record (R114): the snapshot while ACTIVE, otherwise the entry of the active TRIP bank. -/
def rowInForce (s : State) (r : TripRow) : TripEntry :=
  match s.trip.records[r].state, s.trip.records[r].snapshot with
  | .active, some snap => snap
  | _, _ => s.store.trip.active[r]

/-! ### Cover (R114) -/

/-- The three banks that say which furnaces a row covers. -/
structure CoverBanks where
  units : Vector UnitEntry 3
  furnaceEntries : Vector FurnaceEntry 6
  circuitEntries : Vector CircuitEntry 16

def TableStore.coverBanks (t : TableStore) : CoverBanks where
  units := t.unit.active
  furnaceEntries := t.furnace.active
  circuitEntries := t.circuit.active

/-- An owner covers a furnace (R114). A furnace that is not present is covered by no owner (R122; log 8). -/
def ownerCovers (b : CoverBanks) (owner : Scope) (f : Furnace) : Bool :=
  b.furnaceEntries[f].present != 0 &&
    match owner with
    | .furnace n => n == numberByte f
    | .unit n =>
      match ofNumberByte 3 n with
      | some u => b.units[u].present != 0 && (b.units[u].output1 == numberByte f || b.units[u].output2 == numberByte f)
      | none => false
    | .shop => true
    | .circuit _ => false

/-- A row covers a furnace: by the owner of its circuit for scope CIRCUIT, by the owner its scope names otherwise. An
absent circuit covers no furnace (R114). -/
def rowCovers (b : CoverBanks) (row : TripEntry) (f : Furnace) : Bool :=
  match row.scope with
  | .circuit n =>
    match ofNumberByte 16 n with
    | some c => b.circuitEntries[c].present != 0 && ownerCovers b b.circuitEntries[c].owner f
    | none => false
  | sc => ownerCovers b sc f

/-- The snapshot of an ACTIVE record whose action is `a`. -/
def activeSnapshot (s : State) (a : TripAction) (r : TripRow) : Option TripEntry :=
  match s.trip.records[r].state, s.trip.records[r].snapshot with
  | .active, some snap => if snap.acts = a then some snap else none
  | _, _ => none

/-- The ACTIVE record acts with `a` and its row covers the furnace in the given banks. -/
def activeCovers (s : State) (b : CoverBanks) (a : TripAction) (f : Furnace) (r : TripRow) : Bool :=
  match activeSnapshot s a r with
  | some snap => rowCovers b snap f
  | none => false

/-- The lowest-numbered ACTIVE record with action `a` that covers the furnace (R127). -/
def lowestCovering (s : State) (a : TripAction) (f : Furnace) : Option TripRow :=
  tripRows.find? (activeCovers s s.store.coverBanks a f)

/-- The lowest-numbered ACTIVE record with action `a` (R128). -/
def lowestActive (s : State) (a : TripAction) : Option TripRow := tripRows.find? fun r => (activeSnapshot s a r).isSome

/-- The record is ACTIVE. -/
def isActive (s : State) (r : TripRow) : Bool := s.trip.records[r].state = .active

/-- The count of ACTIVE records (R121). -/
def activeCount (s : State) : Nat := tripRows.countP (isActive s)

/-- R122: the permit that latched cut and cover give a furnace. -/
def coveredPermit (s : State) (f : Furnace) : Permit :=
  if s.trip.latchedCuts[f] then .cut
  else if (lowestCovering s .shed f).isSome then .shed
  else .permitted

/-- R122: the permit of a furnace that is not present is kept, as its latched cut is. An accepted RESTORE_POWER still clears
that latched cut, and the permit becomes PERMITTED with it (R127; log 8). -/
def keptPermit (s : State) (f : Furnace) : Permit :=
  if s.trip.latchedCuts[f] then .cut else if s.permitOf f = .cut then .permitted else s.permitOf f

/-- R122: the permit that the trip unit's own state gives. -/
def derivedPermit (s : State) (f : Furnace) : Permit :=
  if (s.furnaceEntry f).present = 0 then keptPermit s f else coveredPermit s f

/-! ### Readiness (R132) -/

/-- The value lies within tap window low to tap window high, bounds included. -/
def inTapWindow (p : ProgrammeEntry) (x : Int) : Bool := decide ((p.tapLow.toNat : Int) ≤ x ∧ x ≤ (p.tapHigh.toNat : Int))

/-- The seven findings of a furnace as the state stands (R132). -/
def findingsOf (s : State) (f : Furnace) : Findings :=
  let permit := s.permitOf f = .permitted && s.store.mode = .running
  match s.heatOf f with
  | none => { stage := false, dip := false, estimate := false, chemistry := false, permit := permit, mass := false, freeze := false }
  | some h =>
    let p := s.programmeEntry h.programme
    { stage := h.stage = .holding
      dip := match h.lastDip with
        | some d => decide (age s.clock d.second ≤ p.dipValidity.toNat) && inTapWindow p d.value
        | none => false
      estimate := h.estimateValid && inTapWindow p h.estimate
      chemistry := match h.chemistry with
        | .accepted t => decide (age s.clock t ≤ p.acceptanceLifetime.toNat)
        | _ => false
      permit := permit
      mass := decide ((s.furnaceEntry f).minTapMass.toNat ≤ h.bathMass)
      freeze := !h.freezeRisk }

/-- The findings in the order of R132. -/
def Findings.list (m : Findings) : List Bool := [m.stage, m.dip, m.estimate, m.chemistry, m.permit, m.mass, m.freeze]

/-- All-met (R132). -/
def Findings.allMet (m : Findings) : Bool := m.list.all id

/-- The first unmet condition, 1 to 7 in the order of R132; 0 while all-met is set (R167). -/
def Findings.firstUnmet (m : Findings) : Nat :=
  match m.list.findIdx? (· = false) with
  | some i => i + 1
  | none => 0

/-! ### Codes of states in replies and status frames (R165, R167) -/

def Stage.code : Stage → Nat
  | .melting => 1
  | .superheat => 2
  | .holding => 3
  | .tapping => 4

/-- The stage byte: 0 is EMPTY (R167). -/
def stageCode (h : Option Heat) : Nat :=
  match h with
  | some h => h.stage.code
  | none => 0

def HoldMode.code : HoldMode → Nat
  | .floor => 0
  | .boost => 1
  | .boostWait => 2
  | .directed => 3

def DipSource.code : DipSource → Nat
  | .lance => 0
  | .host => 1

def CloseReason.code : CloseReason → Nat
  | .emptied => 0
  | .drained => 1
  | .abandoned => 2

def ClosedBy.code : ClosedBy → Nat
  | .timer => 0
  | .sync => 1
  | .syncMissed => 2

def Permit.code : Permit → Nat
  | .permitted => 0
  | .shed => 1
  | .cut => 2

def TripState.code : TripState → Nat
  | .idle => 0
  | .pending => 1
  | .active => 2

def Mode.code : Mode → Nat
  | .unconfigured => 0
  | .running => 1
  | .shopStop => 2

def StationState.code : StationState → Nat
  | .free => 0
  | .granted => 1
  | .pouring => 2

def ReleaseOutcome.code : ReleaseOutcome → Nat
  | .poured => 1
  | .tapCancelled => 2
  | .tapLapsed => 3
  | .tapCut => 4
  | .tapStopped => 5
  | .tapReset => 6

/-- The active bank byte of TABLE_READ (R165). -/
def BankName.code : BankName → Nat
  | .a => 0
  | .b => 1

end Sys2Proof.Machine
end

