-- ==== Sys2Proof/Machine/Power.lean ====
section
/-! DEFINITION. The demand governor: the window account (chapter 4), and requests, caps, targets, the distribution by class,
immediate lowering and setpoint holdings (chapter 5). -/

namespace Sys2Proof.Machine

/-! ### The window account -/

/-- R67: a window closes; its entry joins the history at the head and the next window opens. -/
def closeWindow (s : State) (by' : ClosedBy) : State :=
  let w := s.gov.window
  let entry : HistoryEntry :=
    { number := w.number, used := w.used, overrun := w.overrun, peak := w.peak, closedBy := by' }
  { s with gov := { s.gov with
      history := (entry :: s.gov.history).take Config.historyCapacity
      window := { w with number := w.number + 1, elapsed := 0, used := 0, overrun := 0, peak := 0, syncCount := 0, demandOverrun := false } } }

/-- R65: the period just ended is charged to the window. -/
def chargeWindow (w : WindowRecord) : WindowRecord :=
  { w with
    used := satAdd Config.max32 w.used w.issuedTotal
    overrun := satAdd Config.max32 w.overrun w.floorExcess
    demandOverrun := w.demandOverrun || decide (0 < w.floorExcess)
    peak := max w.peak w.issuedTotal }

/-- R66: the close test of step 2, with the closed-by value it gives. -/
def closeTest (e : ShopEntry) (elapsed : Nat) : Option ClosedBy :=
  match e.mode with
  | .free => if e.windowLength.toNat ≤ elapsed then some .timer else none
  | .sync | .syncEveryN =>
    if e.windowLength.toNat + e.syncGuard.toNat ≤ elapsed then some .syncMissed else none

/-- Steps 1 and 2 of R64: charge the period, advance t and make the close test under the bank still in force. -/
def chargeAndAdvance (s : State) : State :=
  let w := chargeWindow s.gov.window
  let s1 := s.setWindow { w with elapsed := satAdd Config.max16 w.elapsed 1 }
  match closeTest s.shopEntry s1.gov.window.elapsed with
  | none => s1
  | some .syncMissed =>
    closeWindow (s1.setWindow { s1.gov.window with missedSyncs := count16 s1.gov.window.missedSyncs }) .syncMissed
  | some by' => closeWindow s1 by'

/-- R68 to R71: what a taken WINDOW_SYNC does in the window mode in force. -/
def takeWindowSync (s : State) : State :=
  match s.shopEntry.mode with
  | .sync => closeWindow s .sync
  | .syncEveryN =>
    let n := s.gov.window.syncCount + 1
    let s1 := s.setWindow { s.gov.window with syncCount := n }
    if n = s.shopEntry.syncsPerWindow.toNat then closeWindow s1 .sync else s1
  | .free => s.setWindow { s.gov.window with ignoredSyncs := count16 s.gov.window.ignoredSyncs }

/-- The budget B of R73 step 1. -/
def budgetOf (e : ShopEntry) : Nat := e.ceiling.toNat * e.windowLength.toNat

/-- The remaining time r of R73 step 2. -/
def remainingTime (e : ShopEntry) (elapsed : Nat) : Nat := max 1 (e.windowLength.toNat - elapsed)

/-- The sum of the ratings of the present units (R73 step 5). -/
def unitRatingSum (units : Vector UnitEntry 3) : Nat :=
  (powerUnits.map fun u => if units[u].present != 0 then units[u].rating.toNat else 0).sum

/-- The allowance A of R73 steps 3 to 5. -/
def allowanceOf (e : ShopEntry) (units : Vector UnitEntry 3) (used elapsed : Nat) : Nat :=
  min (min ((budgetOf e - used) / remainingTime e elapsed) e.peakCap.toNat) (unitRatingSum units)

/-! ### Requests, caps and targets -/

/-- The hold demand of a heat in HOLDING (R54). -/
def holdDemand (e : FurnaceEntry) (h : Heat) : Nat :=
  match h.holdMode, h.directed with
  | .boost, _ => e.holdFloor.toNat + e.boost.toNat
  | .directed, some d => d.power
  | _, _ => e.holdFloor.toNat

/-- R81: a request whose age exceeds the request lifetime is removed. -/
def freshRequest (s : State) (q : Option PowerReading) : Option PowerReading :=
  q.filter fun r => decide (age s.clock r.second ≤ s.shopEntry.requestLifetime.toNat)

/-- The request of a configured furnace by its stage (R84), before the freeze rule. -/
def stageRequest (e : FurnaceEntry) (h : Option Heat) (q : Option PowerReading) : Nat :=
  match h with
  | none => 0
  | some h =>
    match h.stage, q with
    | .melting, some q => q.power
    | .melting, none => 0
    | .superheat, some q => q.power
    | .superheat, none => e.holdFloor.toNat
    | .holding, some q => min (holdDemand e h) q.power
    | .holding, none => holdDemand e h
    | .tapping, _ => 0

/-- R84: FREEZE_RISK raises the request of a heat not in TAPPING to the hold floor. -/
def requestOf (e : FurnaceEntry) (h : Option Heat) (q : Option PowerReading) : Nat :=
  let base := stageRequest e h q
  match h with
  | some h => if h.freezeRisk && decide (h.stage ≠ .tapping) then max base e.holdFloor.toNat else base
  | none => base

/-- The lowest of a list of limits, each with whether it applies. -/
def lowestOf (start : Nat) (limits : List (Bool × Nat)) : Nat :=
  limits.foldl (fun acc l => if l.1 then min acc l.2 else acc) start

/-- The furnace has no open heat, or its heat is in TAPPING (R85). -/
def emptyOrTapping (h : Option Heat) : Bool :=
  match h with
  | none => true
  | some h => h.stage = .tapping

/-- The cap of a configured furnace as the state stands (R85). -/
def capOf (s : State) (f : Furnace) : Nat :=
  let e := s.furnaceEntry f
  lowestOf e.rating.toNat
    [ (s.permitOf f = .shed, e.holdFloor.toNat),
      (s.permitOf f = .cut, 0),
      ((s.dipWindow f).isSome, e.dipCap.toNat),
      (emptyOrTapping (s.heatOf f), 0),
      (s.store.mode ≠ .running, 0) ]

/-- The target of a configured furnace (R86). -/
def targetOf (s : State) (f : Furnace) : Nat :=
  let e := s.furnaceEntry f
  min (min (requestOf e (s.heatOf f) (s.powerOf f).request) (capOf s f)) ((s.powerOf f).inForce + e.ramp.toNat)

/-! ### Setpoint holdings and immediate lowering -/

/-- A holding of a value, classed against last sent (R92, R93, R99). -/
def holdingFor (value lastSent : Nat) : SetpointHolding := { value := value, urgent := decide (value < lastSent) }

/-- R92: the holding is brought into step with the allocation in force. -/
def FurnacePower.inStep (p : FurnacePower) : FurnacePower :=
  { p with holding := if p.inForce = p.lastSent then none else some (holdingFor p.inForce p.lastSent) }

/-- R92: a waiting holding is judged again after a transmission for the output; a holding that equals last sent is withdrawn
(R97, lowering taken first), and one that stays no longer gives way. -/
def FurnacePower.judged (p : FurnacePower) : FurnacePower :=
  { p with holding := match p.holding with
      | some h => if h.value = p.lastSent then none else some (holdingFor h.value p.lastSent)
      | none => none }

/-- A frame is a POWER_SET that sets the power of a furnace (R80, R95). -/
def setsPowerOf (s : State) (f : Furnace) (fr : Frame) : Bool :=
  decide (fr.kind = Config.kindPowerSet) && decide (s.fedBy fr.dst (byteAt fr.payload 0) = some f)

/-- The forwarded frame next to leave FIELD is a POWER_SET for the furnace (R157). -/
def nextSetsPower (s : State) (f : Furnace) : Bool := s.link.toField.head?.any (setsPowerOf s f)

/-- R97: the transmission of a POWER_SET for the furnace is about to start: one stands first in the forward queue, and none for the
furnace is under way (log 14). -/
def powerSetDue (s : State) (f : Furnace) : Bool :=
  nextSetsPower s f && !s.link.field.tx.any fun t => setsPowerOf s f t.frame

/-- A holding is marked to give way, or not, to the forwarded POWER_SET next to leave (R97). -/
def FurnacePower.yielding (p : FurnacePower) (due : Bool) : FurnacePower :=
  { p with holding := p.holding.map fun h => { h with yields := due } }

/-- R90: the allocation in force of a configured furnace is lowered to its cap, taken anew, when it stands above. The holding that
R92 then makes gives way to a POWER_SET for the furnace whose transmission has not started (R97, lowering taken first; log 14);
with one under way it does not (R97, transmission taken first). -/
def lowerToCap (s : State) (f : Furnace) : State :=
  if s.configured f && decide (capOf s f < (s.powerOf f).inForce) then
    s.setPower f ({ s.powerOf f with inForce := capOf s f }.inStep.yielding (powerSetDue s f))
  else s

/-- R90 for every furnace, at a shop stop. -/
def lowerEveryToCap (s : State) : State := furnaces.foldl lowerToCap s

/-! ### Distribution by class (R87, R88) -/

/-- The unit that feeds a configured furnace. -/
def State.feedingUnit (s : State) (f : Furnace) : Option PowerUnit :=
  if s.configured f then (s.furnaceEntry f).unitIndex else none

/-- The grants made so far to the furnaces of a unit. -/
def unitGrants (s : State) (g : Vector Nat 6) (u : PowerUnit) : Nat :=
  (furnaces.map fun f => if s.feedingUnit f = some u then g[f] else 0).sum

/-- The headroom of a furnace's unit: its rating less the grants made to its furnaces (R88). -/
def headroomFor (s : State) (g : Vector Nat 6) (f : Furnace) : Nat :=
  match s.feedingUnit f with
  | some u => s.store.unit.active[u].rating.toNat - unitGrants s g u
  | none => 0

/-- A distribution under way: the grants made and the pool left. -/
structure Shares where
  grants : Vector Nat 6
  pool : Nat
deriving DecidableEq, Repr

/-- Grant an amount to a furnace, clamped to the headroom its unit has left at that moment. -/
def grantWithin (s : State) (d : Shares) (f : Furnace) (amount : Nat) : Shares :=
  let x := min amount (headroomFor s d.grants f)
  { grants := modifyAt d.grants f (· + x), pool := d.pool - x }

/-- R88 step 1: the claims of a class, all taken before any grant of the class. -/
def classClaims (s : State) (member : Furnace → Bool) (amount : Furnace → Nat) (d : Shares) : Vector Nat 6 :=
  Vector.ofFn fun f => if member f then min (amount f) (headroomFor s d.grants f) else 0

/-- Apply amounts in increasing furnace number, each clamped to the headroom remaining (R88 step 4; also step 2, log 7). -/
def applyGrants (s : State) (amounts : Vector Nat 6) (d : Shares) : Shares :=
  furnaces.foldl (fun acc f => grantWithin s acc f amounts[f]) d

/-- R88 step 3: the share-limited grants of the claimants. -/
def shareAmounts (s : State) (claims : Vector Nat 6) (pool : Nat) : Vector Nat 6 :=
  let weightSum := (furnaces.map fun f => if 0 < claims[f] then (s.furnaceEntry f).weight.toNat else 0).sum
  Vector.ofFn fun f => min claims[f] (pool * (1024 * (s.furnaceEntry f).weight.toNat / weightSum) / 1024)

/-- R88 step 5: the leftover is offered in increasing furnace number to the claims not yet met. `before` holds the grants
made before this class. -/
def fillClaims (s : State) (claims before : Vector Nat 6) (d : Shares) : Shares :=
  furnaces.foldl (fun acc f => grantWithin s acc f (min (claims[f] - (acc.grants[f] - before[f])) acc.pool)) d

/-- R88: one class is served from the pool. -/
def serveClass (s : State) (member : Furnace → Bool) (amount : Furnace → Nat) (d : Shares) : Shares :=
  let claims := classClaims s member amount d
  if claims.toList.sum ≤ d.pool then applyGrants s claims d
  else fillClaims s claims d.grants (applyGrants s (shareAmounts s claims d.pool) d)

/-- A configured furnace whose heat is in a stage. -/
def inClass (s : State) (st : Stage) (f : Furnace) : Bool :=
  s.configured f && match s.heatOf f with
    | some h => h.stage = st
    | none => false

/-- R87, class 1: the floor grants, in full. -/
def floorGrants (s : State) (targets : Vector Nat 6) : Vector Nat 6 :=
  Vector.ofFn fun f => if inClass s .holding f then min (s.furnaceEntry f).holdFloor.toNat targets[f] else 0

/-- R87: the distribution of an allowance over the targets in the four classes. -/
def distribute (s : State) (allowance : Nat) (targets : Vector Nat 6) : Vector Nat 6 :=
  let floors := floorGrants s targets
  let d0 : Shares := { grants := floors, pool := allowance - floors.toList.sum }
  let d1 := serveClass s (inClass s .holding) (fun f => targets[f] - floors[f]) d0
  let d2 := serveClass s (inClass s .superheat) (fun f => targets[f]) d1
  let d3 := serveClass s (inClass s .melting) (fun f => targets[f]) d2
  d3.grants

/-- R81 at step 4: the requests of the configured furnaces are tested for age. -/
def ageRequests (s : State) : State :=
  s.mapPowers fun f p => if s.configured f then { p with request := freshRequest s p.request } else p

/-- Step 4 of R64: the allowance (R73), the allocations (R87) and the period under way (R75). -/
def allocate (s : State) : State :=
  let s0 := ageRequests s
  let e := s0.shopEntry
  let w := s0.gov.window
  let a := allowanceOf e s0.store.unit.active w.used w.elapsed
  let grants := distribute s0 a (Vector.ofFn fun f => if s0.configured f then targetOf s0 f else 0)
  let total := grants.toList.sum
  let s1 := s0.mapPowers fun f p => { p with issued := grants[f], inForce := grants[f] }
  { s1 with gov := { s1.gov with
      allowance := a
      window := { w with issuedTotal := total, floorExcess := total - a, budget := budgetOf e, remaining := remainingTime e w.elapsed } } }

/-- Step 5 of R64: the holdings of the furnaces whose allocation in force changed (R92). -/
def refreshHoldings (before : Vector FurnacePower 6) (s : State) : State :=
  s.mapPowers fun f p => if p.inForce = before[f].inForce then p else p.inStep

/-! ### Readings and timers of the governor -/

/-- R80: a pulpit request is recorded. -/
def recordRequest (s : State) (f : Furnace) (setpoint : Nat) : State :=
  s.setPower f { s.powerOf f with request := some { power := setpoint, second := s.clock } }

/-- R83: a power report is recorded. -/
def recordReport (s : State) (f : Furnace) (power : Nat) : State :=
  s.setPower f { s.powerOf f with report := some { power := power, second := s.clock } }

/-- R82: the plant silence timer is started again from the full timeout in force. -/
def restartPlantSilence (s : State) : State :=
  { s with gov := { s.gov with plantSilence := some (s.startTimer s.shopEntry.plantSilence.toNat) } }

/-- R93: the refresh timer expires; a holding is made if none is present. A stopped timer does not expire. -/
def refreshExpiry (s : State) (f : Furnace) : State :=
  match (s.powerOf f).refresh with
  | none => s
  | some _ =>
    let p := { s.powerOf f with refresh := none }
    s.setPower f { p with holding := match p.holding with
        | some h => some h
        | none => some (holdingFor p.inForce p.lastSent) }

/-- The length of the refresh timer (R93). -/
def refreshSeconds : Nat := 2

/-- R95 step 4 and R96: a setpoint sent to a configured furnace is its last sent; its refresh timer restarts and its
holding is judged again. -/
def recordSent (s : State) (f : Furnace) (setpoint : Nat) : State :=
  s.setPower f { s.powerOf f with lastSent := setpoint, refresh := some (s.startTimer refreshSeconds) }.judged

/-- R98: the configured furnaces are determined anew after a UNIT or FURNACE swap; `before` says which were. -/
def reconfigureFurnaces (before : Furnace → Bool) (s : State) : State :=
  s.mapPowers fun f p =>
    match before f, s.configured f with
    | true, false => { p with issued := 0, inForce := 0, holding := none, refresh := none }
    | false, true => { p with issued := 0, inForce := 0, refresh := some (s.startTimer refreshSeconds) }
    | _, _ => p

end Sys2Proof.Machine
end

