-- ==== Sys2Proof/Machine/HeatOps.lean ====
section
/-! DEFINITION. The heat tracker: the stage machine, charges and closures (chapter 2); integration, the estimate, dips, hold
control and the freeze watch (chapter 3). -/

namespace Sys2Proof.Machine

/-! ### Entering and leaving HOLDING (R29), resetting the hold mode (R56) -/

/-- R29: a heat enters HOLDING; its hold-interval timer starts with the hold interval of its programme. -/
def enterHolding (s : State) (h : Heat) : Heat :=
  { h with stage := .holding, holdMode := .floor, holdTimer := some (s.startTimer (s.programmeEntry h.programme).holdInterval.toNat) }

/-- R29: the effects of leaving HOLDING. The mode FLOOR holds no boost slot. -/
def leaveHolding (h : Heat) : Heat := { h with holdMode := .floor, directed := none, holdTimer := none }

/-- R56: the hold mode is reset to FLOOR, a boost slot freed and a directed hold ended; the hold-interval timer runs on. -/
def resetHoldMode (h : Heat) : Heat := { h with holdMode := .floor, directed := none }

/-- R58, R59: a directed hold ends. -/
def endDirected (h : Heat) : Heat :=
  match h.directed with
  | some _ => { h with holdMode := .floor, directed := none }
  | none => h

/-! ### Dips (R31, R32, R52, R53) -/

/-- R31: a heat in SUPERHEAT at or above its hold target passes to HOLDING. -/
def holdTargetTest (s : State) (h : Heat) : Heat :=
  if h.stage = .superheat ∧ ((s.programmeEntry h.programme).holdTarget.toNat : Int) ≤ h.estimate then enterHolding s h else h

/-- R32: the melt-out comparison of a dip recorded in MELTING. -/
def meltOutTest (s : State) (value : Int) (h : Heat) : Heat :=
  if h.stage = .melting ∧ ((s.programmeEntry h.programme).meltOut.toNat : Int) ≤ value then
    { h with stage := .superheat, meltRemaining := 0, estimate := value, residual := 0, estimateValid := true }
  else h

/-- R52: anchoring. The valid flag is set in SUPERHEAT, HOLDING and TAPPING. -/
def anchor (value : Int) (h : Heat) : Heat :=
  { h with estimate := value, residual := 0, estimateValid := h.estimateValid || decide (h.stage ≠ .melting) }

/-- A dip is recorded for a heat: last dip, anchoring, and the stage tests of R32 and R31. -/
def recordDip (s : State) (value : Int) (source : DipSource) (h : Heat) : Heat :=
  let h1 := anchor value { h with lastDip := some { value := value, second := s.clock, source := source } }
  holdTargetTest s (meltOutTest s value h1)

/-! ### Charges (R24, R25, R27, R28) -/

/-- R24: the accepted mass of a charge. -/
def acceptedMass (mass bathMass : Nat) : Nat := min mass (Config.maxBathMass - bathMass)

/-- R25: a charge is merged into the sixteenth entry. -/
def mergeLast (c : Charge) : List Charge → List Charge
  | [] => []
  | [last] => [{ second := c.second, mass := satAdd Config.max16 last.mass c.mass }]
  | x :: xs => x :: mergeLast c xs

/-- R25: the list holds 16 entries, so the next charge is merged. -/
def chargeListFull (h : Heat) : Bool := decide (Config.chargeListCapacity ≤ h.charges.length)

/-- R24 and R25: the masses, the charge list, OVERFILL and the residual of an accepted charge. -/
def addCharge (s : State) (f : Furnace) (accepted : Nat) (h : Heat) : Heat :=
  let c : Charge := { second := s.clock, mass := accepted }
  { h with
    charges := if chargeListFull h then mergeLast c h.charges else h.charges ++ [c]
    merged := h.merged || chargeListFull h
    chargedTotal := h.chargedTotal + accepted
    bathMass := h.bathMass + accepted
    overfill := overfillFlag s f (h.bathMass + accepted)
    residual := 0 }

/-- The melt energy of a mass under the heat's programme, in kJ (R23, R27, R28). -/
def meltEnergyOf (s : State) (h : Heat) (mass : Nat) : Nat := mass * (s.programmeEntry h.programme).meltEnergy.toNat

/-- R27 and R28: the stage effect of an accepted charge. -/
def chargeStageEffect (s : State) (accepted : Nat) (h : Heat) : Heat :=
  match h.stage with
  | .melting => { h with meltRemaining := satAdd Config.max32 h.meltRemaining (meltEnergyOf s h accepted) }
  | .superheat => { h with stage := .melting, meltRemaining := meltEnergyOf s h accepted, chemistry := .void, estimateValid := false }
  | .holding =>
    leaveHolding
      { h with stage := .melting, meltRemaining := meltEnergyOf s h accepted, chemistry := .void, estimateValid := false }
  | .tapping => h

/-- R20: the heat id counter passes from its largest value to 1. -/
def nextId (id : Word32) : Word32 := if id = 4294967295 then 1 else id + 1

/-- R23: the record an accepted HEAT_OPEN creates. -/
def newHeat (s : State) (f : Furnace) (mass : Nat) (programme : Fin 8) : Heat where
  heatId := s.heat.nextHeatId
  programme := programme
  stage := .melting
  charges := [{ second := s.clock, mass := mass }]
  merged := false
  chargedTotal := mass
  pouredTotal := 0
  bathMass := mass
  overfill := overfillFlag s f mass
  meltRemaining := mass * (s.programmeEntry programme).meltEnergy.toNat
  energyDelivered := 0
  estimate := 0
  residual := 0
  estimateValid := false
  lastDip := none
  chemistry := .none
  holdMode := .floor
  directed := none
  holdTimer := none
  unpowered := 0
  freezeRisk := false
  pours := 0
  openedAt := s.clock

/-! ### Closing a heat (R37, R38) -/

/-- R38: the log entry of a closure. -/
def closedEntry (s : State) (f : Furnace) (reason : CloseReason) (h : Heat) : ClosedHeat where
  heatId := h.heatId
  furnace := f
  programme := h.programme
  openedAt := h.openedAt
  closedAt := s.clock
  chargedTotal := h.chargedTotal
  pouredTotal := h.pouredTotal
  energyDelivered := h.energyDelivered
  reason := reason
  pours := h.pours

/-- R37: the heat is closed. The record becomes absent, the log takes its entry (newest first, at most eight), the
governor lowers the allocation, and the tap queue loses the furnace's entry. -/
def closeHeat (s : State) (f : Furnace) (reason : CloseReason) : State :=
  match s.heatOf f with
  | none => s
  | some h =>
    let s1 := { s with heat := { s.heat with closedLog := (closedEntry s f reason h :: s.heat.closedLog).take Config.closedLogCapacity } }
    let s2 := lowerToCap (s1.setHeat f none) f
    { s2 with tap := { s2.tap with queue := s2.tap.queue.filter fun e => e.furnace ≠ f } }

/-! ### Integration (R43 to R46) and the freeze watch (R48) -/

/-- R44: the power p of one integration. -/
def integrationPower (s : State) (f : Furnace) : Nat :=
  let p := s.powerOf f
  let chosen := match p.report with
    | some r => if age s.clock r.second ≤ 2 then r.power else p.inForce
    | none => p.inForce
  min chosen (s.furnaceEntry f).rating.toNat

/-- R44: the net energy of one second, in kJ; TAPPING delivers nothing to the bath. -/
def netEnergy (e : FurnaceEntry) (st : Stage) (p : Nat) : Int :=
  let delivered : Nat := if st = .tapping then 0 else p * e.efficiency.toNat / 1024
  (delivered : Int) - (e.loss.toNat : Int)

/-- R45: the energy step in MELTING. -/
def meltStep (net : Int) (h : Heat) : Heat := { h with meltRemaining := h.meltRemaining - net.toNat }

/-- R46: the estimate moves by the net energy of the second. -/
def estimateStep (s : State) (net : Int) (h : Heat) : Heat :=
  if h.bathMass = 0 then { h with residual := 0 }
  else
    let k : Nat := h.bathMass * (s.programmeEntry h.programme).specificHeat.toNat
    let n : Int := net * 10000 + h.residual
    let dT := floorDiv n k
    let e := h.estimate + dT
    if 0 ≤ e ∧ e ≤ Config.maxTemperature then { h with estimate := e, residual := n - dT * (k : Int) }
    else { h with estimate := clampInt 0 Config.maxTemperature e, residual := 0 }

/-- R30: M_r at 0 after the energy step takes a MELTING heat to SUPERHEAT at the melt-out temperature. -/
def meltOutPassage (s : State) (h : Heat) : Heat :=
  if h.meltRemaining = 0 then
    { h with stage := .superheat, estimate := ((s.programmeEntry h.programme).meltOut.toNat : Int), residual := 0, estimateValid := true }
  else h

/-- R48: the freeze watch, on the allocation in force. -/
def freezeWatch (s : State) (f : Furnace) (h : Heat) : Heat :=
  if 0 < (s.powerOf f).inForce then { h with unpowered := 0, freezeRisk := false }
  else if h.stage = .melting then h
  else
    let n := count16 h.unpowered
    { h with unpowered := n, freezeRisk := h.freezeRisk || decide ((s.furnaceEntry f).freezeLimit.toNat ≤ n) }

/-- R43 steps 1 to 4: one integration of an open heat. -/
def integrate (s : State) (f : Furnace) (h : Heat) : Heat :=
  let p := integrationPower s f
  let h1 := { h with energyDelivered := satAdd Config.max32 h.energyDelivered p }
  let net := netEnergy (s.furnaceEntry f) h.stage p
  let h2 := if h.stage = .melting then meltOutPassage s (meltStep net h1) else estimateStep s net h1
  freezeWatch s f (holdTargetTest s h2)

/-! ### Pours, grants and withdrawals as the heat sees them (R33 to R35) -/

/-- R34: the granted heat passes to TAPPING. -/
def grantHeat (h : Heat) : Heat := { leaveHolding h with stage := .tapping }

/-- R33 steps 1 to 4: the record after a pour of a mass already clamped to the bath mass. -/
def pourFrom (s : State) (f : Furnace) (mass : Nat) (h : Heat) : Heat :=
  { h with
    pouredTotal := h.pouredTotal + mass
    bathMass := h.bathMass - mass
    pours := satAdd Config.max8 h.pours 1
    residual := 0
    overfill := overfillFlag s f (h.bathMass - mass) }

/-- R33: a pour completion hands the poured mass to the heat, which returns to HOLDING or is closed EMPTIED. -/
def completeHeatPour (s : State) (f : Furnace) (mass : Nat) : State :=
  match s.heatOf f with
  | none => s
  | some h =>
    let h1 := pourFrom s f mass h
    if (s.furnaceEntry f).heelMinimum.toNat ≤ h1.bathMass then s.setHeat f (some (enterHolding s h1))
    else closeHeat (s.setHeat f (some h1)) f .emptied

/-! ### Hold control (R55, R59, R60) -/

/-- The mode after a hold-interval evaluation of an autonomous mode (R55). -/
def evaluatedMode (p : ProgrammeEntry) (estimate : Int) (slotFree : Bool) (m : HoldMode) : HoldMode :=
  if estimate < (p.holdTarget.toNat : Int) - p.bandLow.toNat then
    if m = .boost then .boost else if slotFree then .boost else .boostWait
  else if (p.holdTarget.toNat : Int) + p.bandHigh.toNat ≤ estimate then .floor
  else m

/-- R55: the cases in which the evaluation is skipped. -/
def holdEvaluationSkipped (s : State) (f : Furnace) (h : Heat) : Bool :=
  h.holdMode = .directed || (s.dipWindow f).isSome || s.permitOf f ≠ .permitted || s.store.mode ≠ .running

/-- R55: a hold-interval expiry. The timer of a heat that does not run one does not expire. -/
def holdIntervalEvent (s : State) (f : Furnace) (h : Heat) : Heat :=
  match h.holdTimer with
  | none => h
  | some _ =>
    let p := s.programmeEntry h.programme
    let h1 := { h with holdTimer := some (s.startTimer p.holdInterval.toNat) }
    if holdEvaluationSkipped s f h then h1
    else { h1 with holdMode := evaluatedMode p h.estimate (decide (boostSlotsInUse s < s.shopEntry.boostLimit.toNat)) h.holdMode }

/-- R59: plant silence ends every directed hold. -/
def endEveryDirected (s : State) : State := s.mapHeats fun _ h => endDirected h

/-- R60: heats move from BOOST to BOOST_WAIT in decreasing furnace number until the count equals the limit. -/
def trimBoost (s : State) : State :=
  furnaces.reverse.foldl (fun acc f =>
    if acc.shopEntry.boostLimit.toNat < boostSlotsInUse acc then
      acc.modifyHeat f fun h => if h.holdMode = .boost then { h with holdMode := .boostWait } else h
    else acc) s

end Sys2Proof.Machine
end

