-- ==== Sys2Proof/Machine/TapOps.lean ====
section
/-! DEFINITION. The tap arbiter: readiness evaluation (R133), arbitration (R140), grant (R141), the tilt permit holding
(R142), the pour (R143, R144), the tap window (R145) and withdrawal (R146). -/

namespace Sys2Proof.Machine

/-! ### Readiness -/

/-- R133: the readiness record of a furnace is evaluated. -/
def evaluateReadiness (s : State) (f : Furnace) : State :=
  { s with tap := { s.tap with readiness := s.tap.readiness.set f { met := findingsOf s f, evaluatedAt := some s.clock } } }

/-- R133: the records of a list of furnaces are evaluated. -/
def evaluateEach (s : State) (fs : List Furnace) : State := fs.foldl evaluateReadiness s

/-- All-met of a furnace's record as last evaluated (R132). -/
def allMet (s : State) (f : Furnace) : Bool := s.tap.readiness[f].met.allMet

/-! ### Grant and arbitration -/

/-- R142: the tilt permit holding is set for the grant it concerns, replacing whatever waits in it. -/
def setTilt (s : State) (on urgent : Bool) (f : Furnace) (heatId : Word32) : State :=
  { s with tap := { s.tap with tiltHolding := some { on := on, urgent := urgent, furnace := f, heatId := heatId } } }

/-- R141 steps 2 to 5: the station record of a grant. -/
def grantedStation (s : State) (e : TapEntry) : Station :=
  { s.tap.station with
    state := .granted
    grant := some { furnace := e.furnace, heatId := e.heatId, second := s.clock }
    tare := match s.tap.station.lastReport with
      | some r => r.weight
      | none => 0
    overdue := false
    silent := s.tap.station.quiet
    tapTimer := some (s.startTimer s.shopEntry.tapWindow.toNat) }

/-- R141: a grant to a queued furnace. -/
def grantStation (s : State) (e : TapEntry) : State :=
  let s1 := { s with tap := { s.tap with queue := s.tap.queue.filter fun x => x.furnace ≠ e.furnace } }
  let s2 := s1.setStation (grantedStation s1 e)
  let s3 := lowerToCap (s2.modifyHeat e.furnace grantHeat) e.furnace
  setTilt s3 true false e.furnace e.heatId

/-- R140: an arbitration. It is made only in FREE, changes nothing on an empty queue, and grants at most once. -/
def arbitrate (s : State) : State :=
  if s.tap.station.state = .free ∧ s.tap.queue ≠ [] then
    let s1 := evaluateEach s (s.tap.queue.map (·.furnace))
    match s1.tap.queue.find? fun e => allMet s1 e.furnace with
    | some e => grantStation s1 e
    | none => s1
  else s

/-! ### Withdrawal and release -/

/-- Steps shared by R144 step 4 and R146 steps 3 and 4: the tap window timer stops, the last release is recorded, OVERDUE
and SILENT are cleared, and the station is FREE. R139 says of the furnace and the heat id that they are present in GRANTED and
POURING alone; that the grant second goes with them is the model's choice (log 32). -/
def releaseStation (s : State) (g : Grant) (outcome : ReleaseOutcome) : State :=
  s.setStation
    { s.tap.station with
      state := .free
      grant := none
      tapTimer := none
      lastRelease := some { furnace := g.furnace, heatId := g.heatId, second := s.clock, outcome := outcome, overdue := s.tap.station.overdue }
      overdue := false
      silent := false }

/-- The grant of a station that is GRANTED, its pour not started. -/
def grantInWindow (s : State) : Option Grant := if s.tap.station.state = .granted then s.tap.station.grant else none

/-- R146 steps 1 to 4: a grant still in its tap window is withdrawn. -/
def withdrawGrant (s : State) (outcome : ReleaseOutcome) : State :=
  match grantInWindow s with
  | none => s
  | some g =>
    let s1 := s.modifyHeat g.furnace (enterHolding s)
    let s2 := setTilt s1 false true g.furnace g.heatId
    releaseStation s2 g outcome

/-- R146 step 5: the arbitration made at a withdrawal other than a shop stop's and a warm reset's. -/
def withdrawAndArbitrate (s : State) (outcome : ReleaseOutcome) : State :=
  match grantInWindow s with
  | none => s
  | some _ => arbitrate (withdrawGrant s outcome)

/-- R122: a permit that becomes CUT withdraws the furnace's own grant. -/
def withdrawForCut (s : State) (f : Furnace) : State :=
  match grantInWindow s with
  | some g => if g.furnace = f then withdrawAndArbitrate s .tapCut else s
  | none => s

/-- R136: every entry leaves the queue. -/
def emptyTapQueue (s : State) : State := { s with tap := { s.tap with queue := [] } }

/-- R124: a shop stop empties the queue and withdraws a grant still in its tap window; no arbitration follows (R146). -/
def stopTaps (s : State) : State := withdrawGrant (emptyTapQueue s) .tapStopped

/-! ### The pour -/

/-- R144 step 1: the poured mass. -/
def pouredMass (weight tare bathMass : Nat) : Nat := min (weight - tare) bathMass

/-- R144: a pour completion, for the grant the station holds. -/
def completePour (s : State) (g : Grant) (weight : Nat) : State :=
  let bath := match s.heatOf g.furnace with
    | some h => h.bathMass
    | none => 0
  let s1 := completeHeatPour s g.furnace (pouredMass weight s.tap.station.tare bath)
  let s2 := setTilt s1 false false g.furnace g.heatId
  arbitrate (releaseStation s2 g .poured)

/-- R144: a report read acts on the station by its tilt. -/
def reportActs (s : State) (tilt weight : Nat) : State :=
  let above := decide (s.shopEntry.restAngle.toNat < tilt)
  match s.tap.station.state, s.tap.station.grant with
  | .granted, _ => if above then s.setStation { s.tap.station with state := .pouring } else s
  | .pouring, some g => if above then s else completePour s g weight
  | _, _ => s

/-- R143 steps 1 and 2: a report of the right length becomes the last report, and station silence starts again. -/
def takeReport (s : State) (tilt weight : Nat) : State :=
  { s with tap := { s.tap with
      silenceTimer := some (s.startTimer s.shopEntry.pourSilence.toNat)
      station := { s.tap.station with
        lastReport := some { tilt := tilt, weight := weight, second := s.clock }
        quiet := false
        silent := false } } }

/-- R143: a POUR_REPORT from the pour station node is read. -/
def readPourReport (s : State) (payload : List Byte) : State :=
  if payload.length ≠ 4 then { s with tap := { s.tap with pourInvalid := count16 s.tap.pourInvalid } }
  else
    let tilt := (halfAt payload 0).toNat
    let weight := (halfAt payload 2).toNat
    reportActs (takeReport s tilt weight) tilt weight

/-- R145: the tap window timer expires. A stopped timer does not expire. R145 names completion and withdrawal as what stops the
timer; that it also stands stopped once it has expired in POURING is the model's choice (log 30). -/
def tapWindowEvent (s : State) : State :=
  match s.tap.station.tapTimer with
  | none => s
  | some _ =>
    match s.tap.station.state with
    | .granted => withdrawAndArbitrate s .tapLapsed
    | .pouring => s.setStation { s.tap.station with overdue := true, tapTimer := none }
    | .free => s

/-- R143: the station silence timer expires, and stays stopped until the next report. -/
def stationSilenceEvent (s : State) : State :=
  match s.tap.silenceTimer with
  | none => s
  | some _ =>
    { s with tap := { s.tap with
        silenceTimer := none
        station := { s.tap.station with quiet := true, silent := s.tap.station.silent || decide (s.tap.station.state ≠ .free) } } }

/-- R133: the readiness timer expires. -/
def readinessEvent (s : State) : State :=
  let s1 := { s with tap := { s.tap with readinessTimer := s.startTimer 1 } }
  arbitrate (evaluateEach s1 furnaces)

end Sys2Proof.Machine
end

