-- ==== Sys2Proof/Machine/TripOps.lean ====
section
/-! DEFINITION. The trip unit: evaluation of due rows (R117), counting, activation and return (R119, R120), actions (R121),
permits and latched cuts (R122, R123), the shop-stop latch (R124), and what a TRIP swap does to the records (R130). -/

namespace Sys2Proof.Machine

/-! ### Shop stop (R124) -/

/-- The neighbours of a latch that passes from clear to set: mode (R17), allocations (R90), hold modes (R56), taps. -/
def handShopStop (s : State) : State :=
  let s1 := { s with store := { s.store with mode := if s.store.mode = .running then .shopStop else s.store.mode } }
  stopTaps ((lowerEveryToCap s1).mapHeats fun _ h => resetHoldMode h)

/-- R124: the latch is set with a cause. A cause set while the latch is set is added, and nothing is handed on. -/
def setShopStop (s : State) (pin row : Bool) : State :=
  let t := { s.trip with stopLatch := true, causePin := s.trip.causePin || pin, causeRow := s.trip.causeRow || row }
  if s.trip.stopLatch then { s with trip := t } else handShopStop { s with trip := t }

/-! ### Permits (R122) -/

/-- R122: what a change of one permit hands to the neighbours. -/
def handPermitChange (s : State) (f : Furnace) (before after : Permit) : State :=
  match before, after with
  | .permitted, .shed => (lowerToCap s f).modifyHeat f resetHoldMode
  | .permitted, .cut | .shed, .cut => withdrawForCut ((lowerToCap s f).modifyHeat f resetHoldMode) f
  | _, _ => s

/-- R122: the permits are derived anew, all at once, and each change is handed on in furnace order. -/
def derivePermits (s : State) : State :=
  let before := s.trip.permits
  let after : Vector Permit 6 := Vector.ofFn (derivedPermit s)
  furnaces.foldl (fun acc f => handPermitChange acc f before[f] after[f]) { s with trip := { s.trip with permits := after } }

/-- R123: the latched cuts of the furnaces that `p` names are set. -/
def latchCuts (s : State) (p : Furnace → Bool) : State :=
  { s with trip := { s.trip with latchedCuts := mapEach s.trip.latchedCuts fun f b => b || p f } }

/-- R123, widened cover: furnaces newly covered by an ACTIVE CUT record at a swap. `before` are the banks before it. -/
def widenCuts (before : CoverBanks) (s : State) : State :=
  latchCuts s fun f => tripRows.any fun r =>
    activeCovers s s.store.coverBanks .cut f r && !activeCovers s before .cut f r

/-! ### Evaluation -/

/-- What an evaluation did to a record beyond its counts. -/
inductive TripChange where
  | none
  | activated (snap : TripEntry)
  | returned
deriving DecidableEq, Repr

/-- R119: an evaluation of a record that is IDLE or PENDING, under the row of the active bank. -/
def countTowardActivation (s : State) (row : TripEntry) (rec : TripRecord) : TripRecord × TripChange :=
  match circuitAtFault s row with
  | none => ({ rec with causePresent := false, persistenceCount := 0, state := .idle }, .none)
  | some c =>
    if rec.persistenceCount + 1 = row.persistence.toNat then
      ({ state := .active, persistenceCount := 0, clearCount := 0, causePresent := true, setSecond := some s.clock,
         circuitAtSet := some c, valueAtSet := s.cool.circuits[c].valueOf row.watches, readSinceSet := false,
         snapshot := some row }, .activated row)
    else ({ rec with causePresent := true, persistenceCount := rec.persistenceCount + 1, state := .pending }, .none)

/-- R120: an evaluation of an ACTIVE record, under its snapshot. -/
def countTowardReturn (s : State) (snap : TripEntry) (rec : TripRecord) : TripRecord × TripChange :=
  let present := rowTrue s snap
  let rec1 := { rec with causePresent := present }
  if !snap.selfClears then (rec1, .none)
  else if present then ({ rec1 with clearCount := 0 }, .none)
  else if rec.clearCount + 1 = snap.persistence.toNat then
    ({ rec1 with state := .idle, clearCount := 0, snapshot := none }, .returned)
  else ({ rec1 with clearCount := rec.clearCount + 1 }, .none)

/-- One evaluation of a record (R119, R120). -/
def evaluateRecord (s : State) (r : TripRow) : TripRecord × TripChange :=
  let rec' := s.trip.records[r]
  match rec'.state, rec'.snapshot with
  | .active, some snap => countTowardReturn s snap rec'
  | .active, none => (rec', .none)
  | _, _ => countTowardActivation s s.store.trip.active[r] rec'

/-- R121: the action of one activation. -/
def takeAction (s : State) (ch : TripChange) : State :=
  match ch with
  | .activated snap =>
    match snap.acts with
    | .cut => latchCuts s (rowCovers s.store.coverBanks snap)
    | .shopStop => setShopStop s false true
    | _ => s
  | _ => s

/-- R117: every due record with a row in force is evaluated once, against the same records; the actions are then taken in
row order, and the permits derived once when a record was activated or returned (R122). -/
def evaluateRows (s : State) (due : TripEntry → Bool) : State :=
  let results : Vector (TripRecord × TripChange) 32 :=
    Vector.ofFn fun r =>
      if (rowInForce s r).present != 0 && due (rowInForce s r) then evaluateRecord s r else (s.trip.records[r], .none)
  let s1 := { s with trip := { s.trip with records := mapEach results fun _ x => x.1 } }
  let s2 := tripRows.foldl (fun acc r => takeAction acc results[r].2) s1
  if tripRows.any fun r => results[r].2 ≠ .none then derivePermits s2 else s2

/-! ### The events that make rows due (R107, R108, R109, R117) -/

/-- The quantities a SAMPLE frame touched on a circuit (R107). -/
structure Touched where
  flow : Bool := false
  inlet : Bool := false
  outlet : Bool := false
deriving DecidableEq, Repr

/-- A quantity is in a circuit's touched set (R107). -/
def Touched.has (t : Touched) : Quantity → Bool
  | .flow => t.flow
  | .inlet => t.inlet
  | .outlet => t.outlet
  | .deltaT => t.inlet || t.outlet
  | .flowSpan => false

/-- R117: rows due at the end of a SAMPLE frame. -/
def dueAtFrame (s : State) (touched : Vector Touched 16) (row : TripEntry) : Bool :=
  circuits.any fun c => inScope s row c && touched[c].has row.watches

/-- R117: rows due at an age-timer expiry. -/
def dueAtAge (row : TripEntry) : Bool := row.test = .stale || row.test = .fault

/-- R117: rows due at a span-timer expiry of a circuit. -/
def dueAtSpan (s : State) (c : Circuit) (row : TripEntry) : Bool := row.watches = .flowSpan && inScope s row c

/-! ### TRIP swaps (R130) -/

/-- R130: a record that is not ACTIVE is reset; its set fields and read since set are kept. -/
def resetTripRecord (r : TripRecord) : TripRecord :=
  if r.state = .active then r
  else { r with state := .idle, persistenceCount := 0, clearCount := 0, causePresent := false }

def resetTripRecords (s : State) : State :=
  { s with trip := { s.trip with records := mapEach s.trip.records fun _ r => resetTripRecord r } }

end Sys2Proof.Machine
end

