-- ==== Sys2Proof/Machine/TableOps.lean ====
section
/-! DEFINITION. The table store: validation (R2 to R9, R11, R14, R15), writes and reads of banks (R10, R13), the moving marks
(R14), and the performance of swaps with their effects in other blocks (R12, R16, R17). -/

namespace Sys2Proof.Machine

/-! ### One table of the store -/

/-- The swap-pending mark of a table. -/
def TableStore.swapPendingOf (t : TableStore) : TableId → Bool
  | .shop => t.shop.swapPending
  | .unit => t.unit.swapPending
  | .furnace => t.furnace.swapPending
  | .programme => t.programme.swapPending
  | .channel => t.channel.swapPending
  | .circuit => t.circuit.swapPending
  | .trip => t.trip.swapPending

/-- The swap count of a table. -/
def TableStore.swapCountOf (t : TableStore) : TableId → Nat
  | .shop => t.shop.swapCount
  | .unit => t.unit.swapCount
  | .furnace => t.furnace.swapCount
  | .programme => t.programme.swapCount
  | .channel => t.channel.swapCount
  | .circuit => t.circuit.swapCount
  | .trip => t.trip.swapCount

/-- The active-bank indicator of a table. -/
def TableStore.activeBankOf (t : TableStore) : TableId → BankName
  | .shop => t.shop.activeBank
  | .unit => t.unit.activeBank
  | .furnace => t.furnace.activeBank
  | .programme => t.programme.activeBank
  | .channel => t.channel.activeBank
  | .circuit => t.circuit.activeBank
  | .trip => t.trip.activeBank

/-- R11: the swap-pending mark of a table is set. -/
def TableStore.markPending (t : TableStore) : TableId → TableStore
  | .shop => { t with shop := { t.shop with swapPending := true } }
  | .unit => { t with unit := { t.unit with swapPending := true } }
  | .furnace => { t with furnace := { t.furnace with swapPending := true } }
  | .programme => { t with programme := { t.programme with swapPending := true } }
  | .channel => { t with channel := { t.channel with swapPending := true } }
  | .circuit => { t with circuit := { t.circuit with swapPending := true } }
  | .trip => { t with trip := { t.trip with swapPending := true } }

/-- R12: the banks of a table are exchanged. -/
def TableStore.exchange (t : TableStore) : TableId → TableStore
  | .shop => { t with shop := t.shop.exchange }
  | .unit => { t with unit := t.unit.exchange }
  | .furnace => { t with furnace := t.furnace.exchange }
  | .programme => { t with programme := t.programme.exchange }
  | .channel => { t with channel := t.channel.exchange }
  | .circuit => { t with circuit := t.circuit.exchange }
  | .trip => { t with trip := t.trip.exchange }

/-- The seven tables in increasing number. -/
def allTables : List TableId := [.shop, .unit, .furnace, .programme, .channel, .circuit, .trip]

/-! ### Writing and reading entries (R10, R13, R159) -/

/-- The bytes of the k-th entry carried. -/
def entryBytes (size : Nat) (bytes : List Byte) (k : Nat) : List Byte := (bytes.drop (k * size)).take size

/-- Store carried entries into a bank: positions `start` to `start + count - 1`, counted from 0, take the entries in turn. -/
def storeEntries {α : Type} {n : Nat} (decode : List Byte → α) (size start count : Nat) (bytes : List Byte) (bank : Vector α n) :
    Vector α n :=
  mapEach bank fun i old => if start ≤ i.val ∧ i.val < start + count then decode (entryBytes size bytes (i.val - start)) else old

/-- R10: the entries are stored into the shadow bank at the numbered positions. -/
def TableStore.writeShadow (t : TableStore) (id : TableId) (start count : Nat) (bytes : List Byte) : TableStore :=
  let size := id.entrySize
  match id with
  | .shop => { t with shop := t.shop.setShadow (ShopEntry.decode (entryBytes size bytes 0)) }
  | .unit => { t with unit := t.unit.setShadow (storeEntries UnitEntry.decode size start count bytes t.unit.shadow) }
  | .furnace => { t with furnace := t.furnace.setShadow (storeEntries FurnaceEntry.decode size start count bytes t.furnace.shadow) }
  | .programme =>
    { t with programme := t.programme.setShadow (storeEntries ProgrammeEntry.decode size start count bytes t.programme.shadow) }
  | .channel => { t with channel := t.channel.setShadow (storeEntries ChannelEntry.decode size start count bytes t.channel.shadow) }
  | .circuit => { t with circuit := t.circuit.setShadow (storeEntries CircuitEntry.decode size start count bytes t.circuit.shadow) }
  | .trip => { t with trip := t.trip.setShadow (storeEntries TripEntry.decode size start count bytes t.trip.shadow) }

/-- The bytes of a run of entries of a bank (R159). -/
def readRun {α : Type} {n : Nat} (encode : α → List Byte) (start count : Nat) (bank : Vector α n) : List Byte :=
  ((bank.toList.drop start).take count).flatMap encode

/-- R13: the requested entries of the selected bank, as stored. -/
def TableStore.readBank (t : TableStore) (id : TableId) (shadow : Bool) (start count : Nat) : List Byte :=
  match id with
  | .shop => (if shadow then t.shop.shadow else t.shop.active).encode
  | .unit => readRun UnitEntry.encode start count (if shadow then t.unit.shadow else t.unit.active)
  | .furnace => readRun FurnaceEntry.encode start count (if shadow then t.furnace.shadow else t.furnace.active)
  | .programme => readRun ProgrammeEntry.encode start count (if shadow then t.programme.shadow else t.programme.active)
  | .channel => readRun ChannelEntry.encode start count (if shadow then t.channel.shadow else t.channel.active)
  | .circuit => readRun CircuitEntry.encode start count (if shadow then t.circuit.shadow else t.circuit.active)
  | .trip => readRun TripEntry.encode start count (if shadow then t.trip.shadow else t.trip.active)

/-- The first entry and the count lie within the table's entry numbers (R10, R13); a count of 0 does not (log 11). -/
def entriesWithin (id : TableId) (first count : Byte) : Bool :=
  decide (1 ≤ count.toNat) && decide (id.firstNumber ≤ first.toNat)
    && decide (first.toNat + count.toNat ≤ id.firstNumber + id.entries)

/-! ### Validation (R2 to R9, R11) -/

/-- The first failing check of a list of checks, each with the field it is reported against. -/
def firstFailing (checks : List (Bool × Nat)) : Option Nat := (checks.find? fun c => !c.1).map (·.2)

/-- A field lies within its range. -/
def within (lo hi x : Nat) : Bool := decide (lo ≤ x ∧ x ≤ hi)

/-- A present flag is clear or set (R2; log 9). -/
def flagField (b : Byte) : Bool := within 0 1 b.toNat

/-- R3: the checks of the SHOP entry, against the companion UNIT bank. -/
def checkShop (units : Vector UnitEntry 3) (e : ShopEntry) : Option Nat :=
  firstFailing
    [ (within 1 126 e.partAddress.toNat, 1),
      (within 0 60000 e.ceiling.toNat, 2),
      (within 60 3600 e.windowLength.toNat, 3),
      (within 0 2 e.windowMode.toNat, 4),
      (decide (e.windowMode ≠ 2) || within 2 8 e.syncsPerWindow.toNat, 5),
      (within 5 120 e.syncGuard.toNat, 6),
      (within 0 90000 e.peakCap.toNat, 7),
      (within 1 6 e.boostLimit.toNat, 8),
      (within 1 30 e.requestLifetime.toNat, 9),
      (within 1 60 e.plantSilence.toNat, 10),
      (within 1 10 e.statusPeriod.toNat, 11),
      (within 1 126 e.pourNode.toNat, 12),
      (within 30 900 e.tapWindow.toNat, 13),
      (within 0 200 e.restAngle.toNat, 14),
      (within 1 30 e.pourSilence.toNat, 15),
      (e.pourNode != e.partAddress, 12),
      (powerUnits.all fun u => units[u].present == 0 || units[u].node != e.partAddress, 1) ]

/-- An entry of a lower number fails a test. -/
def lowerNumbered {α : Type} {n : Nat} (bank : Vector α n) (i : Fin n) (clash : α → Bool) : Bool :=
  (List.finRange n).any fun j => decide (j < i) && clash bank[j]

/-- The furnaces of a bank that name a unit, present ones (R8). -/
def namesUnit (e : FurnaceEntry) (u : PowerUnit) : Bool := e.present != 0 && e.unit == numberByte u

/-- The sum of the hold floors of the furnaces that name a unit (R8). -/
def floorSum (entries : Vector FurnaceEntry 6) (u : PowerUnit) : Nat :=
  (furnaces.map fun f => if namesUnit entries[f] u then entries[f].holdFloor.toNat else 0).sum

/-- R8, UNIT swap: a furnace named on an output is present in the companion and names this unit and this output. -/
def outputMatches (entries : Vector FurnaceEntry 6) (u : PowerUnit) (output number : Byte) : Bool :=
  match ofNumberByte 6 number with
  | some f => entries[f].present != 0 && entries[f].unit == numberByte u && entries[f].output == output
  | none => true

/-- R4 and R8: the checks of a UNIT entry of the shadow (log 12 for the order of the last four). -/
def checkUnit (shop : ShopEntry) (entries : Vector FurnaceEntry 6) (bank : Vector UnitEntry 3) (u : PowerUnit) : Option Nat :=
  let e := bank[u]
  if e.present = 0 then none
  else firstFailing
    [ (flagField e.present, 1),
      (within 1 126 e.node.toNat, 2),
      (within 0 30000 e.rating.toNat, 3),
      (within 1 6 e.output1.toNat, 4),
      (within 0 6 e.output2.toNat, 5),
      (e.output1 != e.output2, 5),
      (!lowerNumbered bank u (fun x => x.present != 0 && x.node == e.node), 2),
      (e.node != shop.partAddress, 2),
      (outputMatches entries u 1 e.output1, 4),
      (outputMatches entries u 2 e.output2, 5),
      (decide (floorSum entries u ≤ e.rating.toNat), 3) ]

/-- The furnace is the highest-numbered present furnace of a bank that names a unit. -/
def highestNaming (bank : Vector FurnaceEntry 6) (f : Furnace) (u : PowerUnit) : Bool :=
  furnaces.all fun g => !(decide (f < g) && namesUnit bank[g] u)

/-- R8, FURNACE swap: the checks of a present furnace whose unit is present in the companion UNIT bank. -/
def furnaceUnitChecks (units : Vector UnitEntry 3) (bank : Vector FurnaceEntry 6) (f : Furnace) : List (Bool × Nat) :=
  let e := bank[f]
  match e.unitIndex with
  | none => []
  | some u =>
    if units[u].present = 0 then []
    else
      [ (units[u].outputNumber e.output == numberByte f, 3),
        (!highestNaming bank f u || decide (floorSum bank u ≤ units[u].rating.toNat), 7) ]

/-- R5 and R8: the checks of a FURNACE entry of the shadow. -/
def checkFurnace (units : Vector UnitEntry 3) (bank : Vector FurnaceEntry 6) (f : Furnace) : Option Nat :=
  let e := bank[f]
  if e.present = 0 then none
  else firstFailing
    ([ (flagField e.present, 1),
       (within 1 3 e.unit.toNat, 2),
       (within 1 2 e.output.toNat, 3),
       (within 0 20000 e.rating.toNat, 4),
       (within 50 5000 e.ramp.toNat, 5),
       (within 1 15 e.weight.toNat, 6),
       (within 0 e.rating.toNat e.holdFloor.toNat, 7),
       (within 0 (e.rating.toNat - e.holdFloor.toNat) e.boost.toNat, 8),
       (within 0 1024 e.efficiency.toNat, 9),
       (within 0 2000 e.loss.toNat, 10),
       (within 0 60000 e.capacity.toNat, 11),
       (within 0 e.capacity.toNat e.heelMinimum.toNat, 12),
       (within 0 e.capacity.toNat e.minTapMass.toNat, 13),
       (within 0 e.rating.toNat e.dipCap.toNat, 14),
       (within 5 60 e.dipTimeout.toNat, 15),
       (within 60 3600 e.freezeLimit.toNat, 16),
       (!lowerNumbered bank f (fun x => x.present != 0 && x.unit == e.unit && x.output == e.output), 3) ]
      ++ furnaceUnitChecks units bank f)

/-- R6: the checks of a PROGRAMME entry. -/
def checkProgramme (e : ProgrammeEntry) : Option Nat :=
  if e.present = 0 then none
  else firstFailing
    [ (flagField e.present, 1),
      (within 0 18000 e.meltOut.toNat, 2),
      (within 500 2000 e.meltEnergy.toNat, 3),
      (within 400 2000 e.specificHeat.toNat, 4),
      (within 0 18000 e.holdTarget.toNat, 5),
      (within 0 2000 e.bandLow.toNat, 6),
      (within 0 2000 e.bandHigh.toNat, 7),
      (within 0 18000 e.tapLow.toNat, 8),
      (within e.tapLow.toNat 18000 e.tapHigh.toNat, 9),
      (within 30 1800 e.dipValidity.toNat, 10),
      (within 60 14400 e.acceptanceLifetime.toNat, 11),
      (within 5 600 e.holdInterval.toNat, 12) ]

/-- R7: the checks of a CHANNEL entry. -/
def checkChannel (bank : Vector ChannelEntry 64) (i : Fin 64) : Option Nat :=
  let e := bank[i]
  if e.present = 0 then none
  else firstFailing
    [ (flagField e.present, 1),
      (within 1 126 e.node.toNat, 2),
      (within 1 16 e.circuit.toNat, 4),
      (within 0 2 e.quantity.toNat, 5),
      (decide (e.rawMin.toInt ≤ e.rawMax.toInt), 9),
      (!lowerNumbered bank i (fun x => x.present != 0 && x.node == e.node && x.channel == e.channel), 3) ]

/-- R8: the checks of a CIRCUIT entry. -/
def checkCircuit (e : CircuitEntry) : Option Nat :=
  if e.present = 0 then none
  else firstFailing
    [ (flagField e.present, 1),
      (within 0 2 e.ownerKind.toNat, 2),
      (match e.owner with
        | .furnace n => within 1 6 n.toNat
        | .unit n => within 1 3 n.toNat
        | _ => true, 3),
      (within 0 32767 e.flowDeadband.toNat, 4),
      (within 0 32767 e.inletDeadband.toNat, 5),
      (within 0 32767 e.outletDeadband.toNat, 6),
      (within 1 60 e.maxAge.toNat, 7),
      (within 2 120 e.spanPeriod.toNat, 8) ]

/-- R9: the checks of a TRIP entry. -/
def checkTrip (e : TripEntry) : Option Nat :=
  if e.present = 0 then none
  else firstFailing
    [ (flagField e.present, 1),
      (within 0 3 e.scopeKind.toNat, 2),
      (match e.scope with
        | .circuit n => within 1 16 n.toNat
        | .furnace n => within 1 6 n.toNat
        | .unit n => within 1 3 n.toNat
        | .shop => true, 3),
      (within 0 4 e.quantity.toNat, 4),
      (within 0 7 e.condition.toNat, 5),
      (within 1 15 e.persistence.toNat, 8),
      (within 0 3 e.action.toNat, 9),
      (within 0 1 e.latching.toNat, 10) ]

/-- The first entry of a table that fails, with its number and field (R11 step 3). -/
def firstInvalid (n firstNumber : Nat) (check : Fin n → Option Nat) : Option (Nat × Nat) :=
  (List.finRange n).findSome? fun i => (check i).map fun field => (i.val + firstNumber, field)

/-- R11 step 3: the field and entry checks of a table's shadow bank. -/
def TableStore.invalidEntry (t : TableStore) : TableId → Option (Nat × Nat)
  | .shop => (checkShop t.unit.companion t.shop.shadow).map fun field => (1, field)
  | .unit => firstInvalid 3 1 (checkUnit t.shop.companion t.furnace.companion t.unit.shadow)
  | .furnace => firstInvalid 6 1 (checkFurnace t.unit.companion t.furnace.shadow)
  | .programme => firstInvalid 8 0 fun i => checkProgramme t.programme.shadow[i]
  | .channel => firstInvalid 64 1 (checkChannel t.channel.shadow)
  | .circuit => firstInvalid 16 1 fun i => checkCircuit t.circuit.shadow[i]
  | .trip => firstInvalid 32 1 fun i => checkTrip t.trip.shadow[i]

/-- R14: a FURNACE shadow that would move a furnace with an open heat, or take it out of service, with the lowest field that
differs (log 31). -/
def openHeatFurnaceField (active shadow : FurnaceEntry) : Option Nat :=
  firstFailing [(active.present == shadow.present, 1), (active.unit == shadow.unit, 2), (active.output == shadow.output, 3)]

/-- R14: the furnace with an open heat that an output of a unit feeds in the active banks. -/
def feedsOpenHeat (s : State) (u : PowerUnit) (output : Byte) : Bool :=
  match ofNumberByte 6 (s.store.unit.active[u].outputNumber output) with
  | some f => (s.heatOf f).isSome && s.configured f && (s.furnaceEntry f).unit == numberByte u && (s.furnaceEntry f).output == output
  | none => false

/-- R14: a UNIT shadow that takes a furnace with an open heat off the output that feeds it, with the lowest field that does so
(log 31). -/
def openHeatUnitField (s : State) (u : PowerUnit) : Option Nat :=
  let a := s.store.unit.active[u]
  let b := s.store.unit.shadow[u]
  let feeds1 := feedsOpenHeat s u 1
  let feeds2 := feedsOpenHeat s u 2
  firstFailing
    [ (!((feeds1 || feeds2) && b.present == 0), 1),
      (!(feeds1 && b.output1 != a.output1), 4),
      (!(feeds2 && b.output2 != a.output2), 5) ]

/-- R11 step 4: the open-heat checks (R14). Where several entries or fields fail, the lowest entry is named, and in it the lowest
field: the manual gives the order of step 3 only (log 31). -/
def openHeatProblem (s : State) : TableId → Option (Nat × Nat)
  | .furnace =>
    firstInvalid 6 1 fun f =>
      if (s.heatOf f).isSome then openHeatFurnaceField s.store.furnace.active[f] s.store.furnace.shadow[f] else none
  | .unit => firstInvalid 3 1 (openHeatUnitField s)
  | _ => none

/-- R11 step 5: a PROGRAMME shadow without P0 while a heat is open (R9). -/
def programmeProblem (s : State) : TableId → Bool
  | .programme => anyHeatOpen s && s.store.programme.shadow[(0 : Fin 8)].present == 0
  | _ => false

/-- R9: an open heat carries an index whose entry is absent in the PROGRAMME shadow. -/
def indexWillBeAbsent (s : State) : Bool :=
  furnaces.any fun f => match s.heatOf f with
    | some h => s.store.programme.shadow[h.programme].present == 0
    | none => false

/-! ### Adjustments (R15) and moving marks (R14) -/

/-- R15: a present CUT or SHOP_STOP row with SELF_CLEAR. -/
def needsLatch (e : TripEntry) : Bool := e.present != 0 && (e.acts = .cut || e.acts = .shopStop) && e.selfClears

/-- R15: the row with its latching rewritten to LATCH. -/
def latchRow (e : TripEntry) : TripEntry := if needsLatch e then { e with latching := 0 } else e

/-- R15: some row of the TRIP shadow needs the adjustment. -/
def tripShadowNeedsLatch (t : TableStore) : Bool := t.trip.shadow.toList.any needsLatch

/-- R15: the adjustments are written into the TRIP shadow. -/
def TableStore.adjustTrip (t : TableStore) : TableStore :=
  { t with trip := t.trip.setShadow (mapEach t.trip.shadow fun _ e => latchRow e) }

/-- The output assignments naming a furnace: the outputs of present units (R14). -/
def assignments (units : Vector UnitEntry 3) (f : Furnace) : List (PowerUnit × Nat) :=
  powerUnits.flatMap fun u =>
    (if units[u].present != 0 && units[u].output1 == numberByte f then [(u, 1)] else [])
      ++ (if units[u].present != 0 && units[u].output2 == numberByte f then [(u, 2)] else [])

/-- R14: a furnace is moving while its present flag, unit, output or assignment differs between the active bank and the
bank the pending swaps will put in force, or while a PROGRAMME swap without P0 is pending. The assignment is that of the present
units (log 22). -/
def isMoving (t : TableStore) (f : Furnace) : Bool :=
  let a := t.furnace.active[f]
  let b := t.furnace.companion[f]
  a.present != b.present || a.unit != b.unit || a.output != b.output
    || assignments t.unit.active f != assignments t.unit.companion f
    || (t.programme.swapPending && t.programme.shadow[(0 : Fin 8)].present == 0)

/-- R14: the marks are recomputed. -/
def TableStore.remark (t : TableStore) : TableStore := { t with moving := Vector.ofFn (isMoving t) }

/-! ### Effects of swaps in other blocks (R12) -/

/-- R76: a SHOP swap that changes the window mode or N sets the sync count to 0. -/
def shopSwapEffects (before : ShopEntry) (s : State) : State :=
  let e := s.shopEntry
  let s1 :=
    if e.windowMode ≠ before.windowMode ∨ e.syncsPerWindow ≠ before.syncsPerWindow then
      s.setWindow { s.gov.window with syncCount := 0 }
    else s
  trimBoost s1

/-- R12, R41, R47: a PROGRAMME swap sets absent indices to 0 and clears the residual where the specific heat changes. -/
def programmeSwapHeat (before after : Vector ProgrammeEntry 8) (h : Heat) : Heat :=
  let p : Fin 8 := if after[h.programme].present = 0 then 0 else h.programme
  { h with
    programme := p
    residual := if after[p].specificHeat = before[h.programme].specificHeat then h.residual else 0 }

/-- R41: a FURNACE swap recomputes OVERFILL of each open heat. -/
def recomputeOverfill (s : State) : State := s.mapHeats fun f h => { h with overfill := overfillFlag s f h.bathMass }

/-- R111: what a CIRCUIT swap does to one circuit record. -/
def circuitSwapRecord (s : State) (c : Circuit) (r : CircuitRecord) : CircuitRecord :=
  let e := s.store.circuit.active[c]
  match e.present != 0, r.present with
  | true, false =>
    { CircuitRecord.initial with present := true, spanTimer := some (s.startTimer e.spanPeriod.toNat) }
  | false, true => CircuitRecord.initial
  | _, _ => r

def circuitSwapEffects (s : State) : State :=
  { s with cool := { s.cool with circuits := mapEach s.cool.circuits (circuitSwapRecord s) } }

/-- Apply a function when a condition holds. -/
def applyWhen (c : Bool) (g : State → State) (s : State) : State := if c then g s else s

/-- R12 and R16: the given tables are exchanged together at one event, and then take effect in the other blocks. The banks
as they stood before are compared with the banks after all the exchanges (log 13). -/
def performSwaps (ids : List TableId) (s : State) : State :=
  let old := s.store
  let wasConfigured := fun f => s.configured f
  let has := fun id => decide (id ∈ ids)
  let s1 := { s with store := (ids.foldl TableStore.exchange old).remark }
  let s2 := applyWhen (has .shop) (shopSwapEffects old.shop.active) s1
  let s3 := applyWhen (has .programme) (fun x =>
    x.mapHeats fun _ h => programmeSwapHeat old.programme.active x.store.programme.active h) s2
  let s4 := applyWhen (has .furnace) recomputeOverfill s3
  let s5 := applyWhen (has .unit || has .furnace) (reconfigureFurnaces wasConfigured) s4
  let s6 := applyWhen (has .circuit) circuitSwapEffects s5
  let s7 := applyWhen (has .trip) resetTripRecords s6
  applyWhen (has .circuit || has .unit || has .furnace) (fun x => derivePermits (widenCuts old.coverBanks x)) s7

/-- The tables of a list whose swap is pending. -/
def pendingAmong (s : State) (ids : List TableId) : List TableId := ids.filter s.store.swapPendingOf

/-- R17: every table has been swapped at least once. -/
def everySwapped (t : TableStore) : Bool := allTables.all fun id => decide (0 < t.swapCountOf id)

/-- R17: the passage out of UNCONFIGURED. -/
def passageFromUnconfigured (s : State) : State :=
  if s.store.mode = .unconfigured ∧ everySwapped s.store = true then
    { s with store := { s.store with mode := if s.trip.stopLatch then .shopStop else .running } }
  else s

/-- R11: an accepted swap is performed at once in UNCONFIGURED and marked pending otherwise. -/
def acceptSwap (id : TableId) (s : State) : State :=
  if s.store.mode = .unconfigured then passageFromUnconfigured (performSwaps [id] s)
  else { s with store := (s.store.markPending id).remark }

/-- The swaps pending at a safe point are performed; with none pending nothing happens. -/
def performPending (ids : List TableId) (s : State) : State := if ids = [] then s else performSwaps ids s

/-- Step 3 of R64: the governor's pending swaps (R16). -/
def governorSwaps (s : State) : State := performPending (pendingAmong s [.shop, .unit, .furnace, .programme]) s

/-- Step 2 of R108: the cooling monitor's pending swaps (R16). -/
def coolingSwaps (s : State) : State := performPending (pendingAmong s [.channel, .circuit, .trip]) s

end Sys2Proof.Machine
end

