-- ==== Sys2Proof/Machine/LinkOps.lean ====
section
/-! DEFINITION. The frame path: symbols and port states (R151 to R153), the forward queues and hold-off (R157), the egress
choice (R158), the frames built at a transmission start (R94, R142), and the in-transit clamp (R95, R96). -/

namespace Sys2Proof.Machine

/-! ### Symbols (R152) -/

/-- A symbol is received on a port: a DOWN port comes UP with held off clear, and the liveness timer runs from now. -/
def hearSymbol (p : Port) (s : State) : State :=
  s.modifyPort p fun x => { x with up := true, liveness := true, heldOff := x.heldOff && x.up }

/-- What a symbol does beyond being heard. An end symbol that ends a frame is the frame's own command (log 2). -/
def symbolEffect (x : PortState) : LineSymbol → PortState
  | .hold => { x with heldOff := true }
  | .go => { x with heldOff := false }
  | .frameStart => { x with receiving := true }
  | .frameEnd => { x with receiving := false }
  | .idle => x
  | .data _ => x

/-- R152: one symbol received on a port. -/
def receiveSymbol (p : Port) (sym : LineSymbol) (s : State) : State :=
  (hearSymbol p s).modifyPort p fun x => symbolEffect x sym

/-! ### The part's own control symbols (R151) -/

/-- R151: no frame is being sent any more, and the control symbols that wait go out, oldest first. -/
def PortState.enterGap (x : PortState) : PortState :=
  { x with tx := none, controls := [], controlSent := x.controls.getLast?.or x.controlSent }

/-- R151: a control symbol goes out at once between frames, and during a transmission waits for the next gap. -/
def PortState.sendControl (x : PortState) (c : Control) : PortState :=
  let y := { x with controls := x.controls ++ [c] }
  if x.tx.isNone then y.enterGap else y

/-! ### Forward queues and hold-off (R157) -/

/-- R157: the hold-off test on a queue depth, at the port that feeds the queue. Hold sent follows the test, though the symbol may
have to wait for the gap (log 33). -/
def PortState.holdTest (x : PortState) (depth : Nat) : PortState :=
  if Config.holdDepth ≤ depth ∧ x.holdSent = false then { x.sendControl .hold with holdSent := true }
  else if depth ≤ Config.goDepth ∧ x.holdSent = true then { x.sendControl .go with holdSent := false }
  else x

/-- R157: the hold-off test of the queue whose egress is `p`, on the port that feeds it. -/
def holdOffTest (p : Port) (s : State) : State := s.modifyPort p.other fun x => x.holdTest (s.queueTo p).length

/-- R157: a frame that arrived on `p` is offered to the forward queue toward the other port. -/
def offerForward (p : Port) (fr : Frame) (s : State) : State :=
  if (s.port p.other).up = true ∧ (s.queueTo p.other).length < Config.forwardCapacity then
    holdOffTest p.other (s.setQueueTo p.other (s.queueTo p.other ++ [fr]))
  else s.countPort p fun c => { c with overflowDrops := count16 c.overflowDrops }

/-! ### Frames the part builds -/

/-- The part node address in force. -/
def State.partAddress (s : State) : Byte := s.shopEntry.partAddress

/-- R94: the POWER_SET of a setpoint holding. -/
def setpointFrame (s : State) (f : Furnace) (value : Nat) : Frame where
  dst := match (s.furnaceEntry f).unitIndex with
    | some u => s.store.unit.active[u].node
    | none => 0
  src := s.partAddress
  kind := Config.kindPowerSet
  payload := [(s.furnaceEntry f).output, 0] ++ enc16 value

/-- R142: the TILT_PERMIT of the tilt permit holding. -/
def tiltFrame (s : State) (t : TiltHolding) : Frame where
  dst := s.shopEntry.pourNode
  src := s.partAddress
  kind := Config.kindTiltPermit
  payload := encFlag t.on ++ [numberByte t.furnace] ++ le32 t.heatId

/-! ### The in-transit clamp (R95, R96) -/

/-- A POWER_SET rewritten with a setpoint and the CLAMPED flag; the other flag bits are written as 0 (R159). -/
def rewriteSetpoint (fr : Frame) (setpoint : Nat) (clampedFlag : Bool) : Frame :=
  { fr with payload := [byteAt fr.payload 0] ++ encFlag clampedFlag ++ enc16 setpoint }

/-- The setpoint a POWER_SET carries. -/
def carriedSetpoint (fr : Frame) : Nat := (halfAt fr.payload 2).toNat

/-- R95 and R96: what becomes of a POWER_SET at its transmission start on FIELD: the frame that leaves, and the state. With a
lowering taken first, the frame leaves clamped to the lowered allocation and withdraws an equal holding (R97). -/
def clampPowerSet (fr : Frame) (s : State) : Frame × State :=
  let carried := carriedSetpoint fr
  match s.fedBy fr.dst (byteAt fr.payload 0) with
  | some f =>
    if s.store.mode = .unconfigured then
      (rewriteSetpoint fr 0 (decide (0 < carried)),
       recordSent (s.countPort .field fun c => { c with ungoverned := count16 c.ungoverned }) f 0)
    else
      let written := min carried (s.powerOf f).inForce
      let s1 := if written < carried then s.countPort .field fun c => { c with clamped := count16 c.clamped } else s
      (rewriteSetpoint fr written (decide (written < carried)), recordSent s1 f written)
  | none =>
    (rewriteSetpoint fr 0 (decide (0 < carried)),
     s.countPort .field fun c => { c with ungoverned := count16 c.ungoverned })

/-! ### The egress arbiter (R158) -/

/-- The lowest-numbered furnace with a setpoint holding of a class. -/
def firstSetpoint (s : State) (urgent : Bool) : Option Furnace :=
  furnaces.find? fun f => match (s.powerOf f).holding with
    | some h => h.urgent == urgent
    | none => false

/-- The tilt permit holding waits in a class. -/
def tiltWaits (s : State) (urgent : Bool) : Bool :=
  match s.tap.tiltHolding with
  | some t => t.urgent == urgent
  | none => false

/-- The originated frame of a class first in line on FIELD. -/
def fieldOriginated (s : State) (urgent : Bool) : Option TxSource :=
  if tiltWaits s urgent then some .tilt else (firstSetpoint s urgent).map .setpoint

/-- R158, source 1: URGENT originated; PLANT has none. -/
def urgentSource (s : State) : Port → Option TxSource
  | .field => fieldOriginated s true
  | .plant => none

/-- R158, source 2: NORMAL originated. -/
def normalSource (s : State) : Port → Option TxSource
  | .field => fieldOriginated s false
  | .plant => if s.resp.replies ≠ [] then some .reply else if s.resp.statusHolding.isSome then some .status else none

/-- A source of the NORMAL turn belongs to a class. -/
def TxSource.served : TxSource → Served
  | .forwarded => .forwarded
  | _ => .originated

/-- R97, lowering taken first: the holding of a source gives way to the forwarded frame next to leave FIELD, a POWER_SET for its
furnace that was about to start when the lowering made the holding (log 14). -/
def givesWay (s : State) : TxSource → Bool
  | .setpoint f => (s.powerOf f).holding.any (·.yields) && nextSetsPower s f
  | _ => false

/-- The choice of R158: the source, and whether it is a NORMAL turn. A frame that a setpoint gives way to leaves in its place (R97),
and takes the NORMAL turn of a forwarded frame (log 14). -/
def egressChoice (s : State) (p : Port) : Option (TxSource × Bool) :=
  match urgentSource s p with
  | some src => if givesWay s src then some (.forwarded, true) else some (src, false)
  | none =>
    match normalSource s p, s.queueTo p with
    | some src, _ :: _ =>
      if (s.port p).lastServed = .forwarded && !givesWay s src then some (src, true) else some (.forwarded, true)
    | some src, [] => some (src, true)
    | none, _ :: _ => some (.forwarded, true)
    | none, [] => none

/-- R158: the frame of the chosen source is built and leaves its holding or queue, before the clamp. -/
def takeSource (p : Port) (src : TxSource) (s : State) : Option (Frame × State) :=
  match src with
  | .tilt => s.tap.tiltHolding.map fun t => (tiltFrame s t, { s with tap := { s.tap with tiltHolding := none } })
  | .setpoint f =>
    (s.powerOf f).holding.map fun h => (setpointFrame s f h.value, s.setPower f { s.powerOf f with holding := none })
  | .reply =>
    match s.resp.replies with
    | fr :: rest => some (fr, { s with resp := { s.resp with replies := rest } })
    | [] => none
  | .status => s.resp.statusHolding.map fun fr => (fr, { s with resp := { s.resp with statusHolding := none } })
  | .forwarded =>
    match s.queueTo p with
    | fr :: rest => some (fr, holdOffTest p (s.setQueueTo p rest))
    | [] => none

/-- R95, R96, R158: every POWER_SET on FIELD is clamped; other frames, and POWER_SETs toward PLANT, leave as they are. -/
def clampAtEgress (p : Port) (fr : Frame) (s : State) : Frame × State :=
  match p with
  | .field => if fr.kind = Config.kindPowerSet then clampPowerSet fr s else (fr, s)
  | .plant => (fr, s)

/-- R158: the transmission of a chosen source starts. -/
def startTransmission (p : Port) (src : TxSource) (normalTurn : Bool) (s : State) : State :=
  match takeSource p src s with
  | none => s
  | some (fr, s1) =>
    let out := clampAtEgress p fr s1
    out.2.modifyPort p fun x =>
      { x with
        tx := some { source := src, frame := out.1 }
        lastServed := if normalTurn then src.served else x.lastServed
        counters := { x.counters with framesOut := count16 x.counters.framesOut } }

/-- R158: the egress is free to choose. -/
def egressReady (s : State) (p : Port) : Bool := (s.port p).up && !(s.port p).heldOff && (s.port p).tx.isNone

/-- R158: the egress makes its choice and starts the transmission, when all that it takes holds at once. -/
def egressStart (p : Port) (s : State) : State :=
  if egressReady s p then
    match egressChoice s p with
    | some (src, normalTurn) => startTransmission p src normalTurn s
    | none => s
  else s

/-! ### A port becomes DOWN (R153) -/

/-- R163: when PLANT becomes DOWN the reply queue is emptied and the SHOP_STATUS holding discarded. -/
def discardReplies (s : State) : State := { s with resp := { s.resp with replies := [], statusHolding := none } }

/-- No holding gives way any more: the forward queue toward FIELD is emptied (R97, R153). -/
def stopYielding (s : State) : State := s.mapPowers fun _ x => x.yielding false

/-- R153 steps 1 to 5. The frame cut off leaves a gap, in which the control symbols that wait go out (R151). -/
def portDown (p : Port) (s : State) : State :=
  let s1 := s.modifyPort p fun x => { x.enterGap with up := false, liveness := false, receiving := false, heldOff := false }
  let s2 := holdOffTest p (s1.setQueueTo p [])
  match p with
  | .plant => discardReplies s2
  | .field => stopYielding s2

/-- The transmission under way on PLANT is the OK reply to WARM_RESET (R168). -/
def warmReplyUnderWay (s : State) : Bool :=
  match s.link.plant.tx with
  | some t => t.source = .reply && byteAt t.frame.payload 0 == 0x70 && byteAt t.frame.payload 2 == 0
  | none => false

/-- The transmission under way on a port is over, and the gap between frames is open (R151). -/
def endTransmission (p : Port) (s : State) : State := s.modifyPort p PortState.enterGap

end Sys2Proof.Machine
end

