-- ==== Sys2Proof/Machine/Replies.lean ====
section
/-! DEFINITION. The data of the replies that read state (R150, R165) and the SHOP_STATUS frame (R167). -/

namespace Sys2Proof.Machine

/-- The chemistry byte and the acceptance second (R165). -/
def encChemistry : Chemistry → List Byte × List Byte
  | .none => (enc8 0, zeros 4)
  | .accepted t => (enc8 1, le32 t)
  | .void => (enc8 2, zeros 4)

/-- The last dip of READ_HEAT: presence, value, second, source (R165). -/
def encDip (d : Option Dip) : List Byte :=
  match d with
  | some d => enc8 1 ++ encInt16 d.value ++ le32 d.second ++ enc8 d.source.code
  | none => zeros 8

/-- The directed hold of READ_HEAT: presence, kW, remaining seconds (R165). -/
def encDirected (now : Word32) (d : Option DirectedHold) : List Byte :=
  match d with
  | some d => enc8 1 ++ enc16 d.power ++ enc16 (d.timer.remainingAt now)
  | none => zeros 5

/-- The flags byte of a heat in READ_HEAT (R165). -/
def heatFlags (h : Heat) : Nat := flagBits [h.merged, h.overfill, h.estimateValid, h.freezeRisk]

/-- Every field of R19 but the charge list, as READ_HEAT lays it out (R165). -/
def encHeat (now : Word32) (h : Heat) : List Byte :=
  le32 h.heatId ++ enc8 h.programme.val ++ enc8 h.stage.code ++ enc8 (heatFlags h) ++ enc32 h.chargedTotal
    ++ enc32 h.pouredTotal ++ enc16 h.bathMass ++ enc32 h.meltRemaining ++ enc32 h.energyDelivered
    ++ encInt16 h.estimate ++ le32 (BitVec.ofInt 32 h.residual) ++ encDip h.lastDip ++ (encChemistry h.chemistry).1
    ++ (encChemistry h.chemistry).2 ++ enc8 h.holdMode.code ++ encDirected now h.directed ++ enc16 h.unpowered
    ++ enc8 h.pours ++ le32 h.openedAt

/-- READ_HEAT, part RECORD (R39, R165). -/
def heatRecordData (s : State) (f : Furnace) : List Byte :=
  encFlag (s.dipWindow f).isSome ++ enc8 (remainingSeconds s.clock (s.dipWindow f)) ++ enc16 s.heat.dipInvalid
    ++ enc16 s.heat.dipUnmatched ++ encFlag (s.heatOf f).isSome
    ++ (match s.heatOf f with
        | some h => encHeat s.clock h
        | none => zeros 57)

/-- READ_HEAT, part CHARGES (R39, R165). -/
def heatChargesData (s : State) (f : Furnace) : List Byte :=
  match s.heatOf f with
  | some h => le32 h.heatId ++ enc8 h.charges.length ++ h.charges.flatMap fun c => le32 c.second ++ enc16 c.mass
  | none => zeros 5

/-- One entry of the closed-heat log (R165). -/
def encClosed (e : ClosedHeat) : List Byte :=
  le32 e.heatId ++ [numberByte e.furnace] ++ enc8 e.programme.val ++ le32 e.openedAt ++ le32 e.closedAt
    ++ enc32 e.chargedTotal ++ enc32 e.pouredTotal ++ enc32 e.energyDelivered ++ enc8 e.reason.code ++ enc8 e.pours

/-- READ_CLOSED (R40, R165). -/
def closedLogData (s : State) (first count : Nat) : List Byte :=
  enc8 s.heat.closedLog.length ++ ((s.heat.closedLog.drop (first - 1)).take count).flatMap encClosed

/-- READ_DEMAND, part CURRENT (R77, R165). -/
def demandCurrentData (s : State) : List Byte :=
  let w := s.gov.window
  le32 w.number ++ enc16 w.elapsed ++ enc32 w.used ++ enc32 w.overrun ++ enc32 w.peak ++ enc8 w.syncCount
    ++ encFlag w.demandOverrun ++ enc16 w.missedSyncs ++ enc16 w.ignoredSyncs ++ [s.shopEntry.windowMode]
    ++ le16 s.shopEntry.windowLength ++ le16 s.shopEntry.ceiling ++ enc32 w.budget ++ enc16 w.remaining
    ++ enc32 s.gov.allowance ++ enc32 w.issuedTotal ++ enc32 w.floorExcess
    ++ furnaces.flatMap fun f => enc16 (s.powerOf f).issued ++ enc16 (s.powerOf f).inForce

/-- READ_DEMAND, part HISTORY (R77, R165). -/
def demandHistoryData (s : State) : List Byte :=
  enc8 s.gov.history.length
    ++ s.gov.history.flatMap fun e => le32 e.number ++ enc32 e.used ++ enc32 e.overrun ++ enc32 e.peak ++ enc8 e.closedBy.code

/-- An optional signed value: presence and value (R165). -/
def encOptInt (x : Option Int) : List Byte :=
  match x with
  | some v => enc8 1 ++ encInt16 v
  | none => zeros 3

/-- A held quantity: presence, value, age (R112, R165; log 23). -/
def encHeld (q : HeldQuantity) : List Byte := encOptInt q.value ++ enc8 q.age

/-- READ_CIRCUIT (R112, R165). -/
def circuitData (s : State) (c : Circuit) : List Byte :=
  let r := s.cool.circuits[c]
  encFlag r.present ++ encHeld r.flow ++ encHeld r.inlet ++ encHeld r.outlet ++ encOptInt r.deltaT ++ enc8 r.deltaAge
    ++ (match r.span with
        | some sp => enc8 1 ++ encInt16 sp.low ++ encInt16 sp.high
        | none => zeros 5)
    ++ encOptInt (r.lastSpan.map Int.ofNat) ++ enc16 r.bad ++ encFlag r.spanTimer.isSome
    ++ enc8 (remainingSeconds s.clock r.spanTimer) ++ enc16 s.cool.sampleInvalid

/-- The present verdict byte of the row in force (R125, R165; log 16 for an absent row). -/
def verdictBits (s : State) (row : TripEntry) : Nat :=
  if row.present = 0 then 0
  else
    let cs := rowCircuits s row
    flagBits
      [ cs.any fun c => (rowFlags s row c).hi, cs.any fun c => (rowFlags s row c).lo,
        cs.any fun c => (rowFlags s row c).st, rowTrue s row ]

/-- A furnace mask: bit n - 1 stands for Fn (R165). -/
def furnaceMask (p : Furnace → Bool) : Nat := flagBits (furnaces.map p)

/-- The covered furnaces of the row in force (R125; log 16). -/
def coveredMask (s : State) (row : TripEntry) : Nat :=
  if row.present = 0 then 0 else furnaceMask (rowCovers s.store.coverBanks row)

/-- READ_TRIP, row 1 to 32 (R125, R165). -/
def tripRecordData (s : State) (r : TripRow) : List Byte :=
  let rec' := s.trip.records[r]
  let row := rowInForce s r
  enc8 rec'.state.code ++ enc8 rec'.persistenceCount ++ enc8 rec'.clearCount
    ++ enc8 (flagBits [rec'.causePresent, rec'.readSinceSet, rec'.setSecond.isSome, rec'.valueAtSet.isSome])
    ++ le32 (rec'.setSecond.getD 0)
    ++ (match rec'.circuitAtSet with
        | some c => [numberByte c]
        | none => zeros 1)
    ++ encInt16 (rec'.valueAtSet.getD 0) ++ row.encode
    ++ (if isActive s r then (s.store.trip.active[r]).encode else zeros 12)
    ++ enc8 (verdictBits s row) ++ enc8 (coveredMask s row)

/-- READ_TRIP, row 0 (R125, R165). -/
def tripSummaryData (s : State) : List Byte :=
  enc8 (flagBits [s.trip.stopLatch, s.trip.causePin, s.trip.causeRow, s.estopAsserted])
    ++ (furnaces.flatMap fun f => enc8 (s.permitOf f).code ++ encFlag s.trip.latchedCuts[f])
    ++ enc8 (activeCount s) ++ enc32 (flagBits (tripRows.map (isActive s)))

/-- READ_TAP, part READINESS (R150). -/
def readinessData (s : State) : List Byte :=
  furnaces.flatMap fun f =>
    let r := s.tap.readiness[f]
    enc8 (flagBits (r.met.list ++ [r.evaluatedAt.isSome])) ++ le32 (r.evaluatedAt.getD 0)

/-- READ_TAP, part STATION (R150). -/
def stationData (s : State) : List Byte :=
  let st := s.tap.station
  enc8 s.tap.queue.length ++ (s.tap.queue.flatMap fun e => [numberByte e.furnace] ++ le32 e.heatId ++ le32 e.second)
    ++ enc8 st.state.code
    ++ (match st.grant with
        | some g => [numberByte g.furnace] ++ le32 g.heatId ++ le32 g.second
        | none => zeros 9)
    ++ enc16 (remainingSeconds s.clock st.tapTimer) ++ enc16 st.tare
    ++ enc8 (flagBits
        [st.quiet, st.overdue, st.silent, st.tapTimer.isSome, st.lastReport.isSome, st.lastRelease.isSome,
         match st.lastRelease with
         | some r => r.overdue
         | none => false])
    ++ (match st.lastReport with
        | some r => enc16 r.tilt ++ enc16 r.weight ++ le32 r.second
        | none => zeros 8)
    ++ (match st.lastRelease with
        | some r => [numberByte r.furnace] ++ le32 r.heatId ++ le32 r.second ++ enc8 r.outcome.code
        | none => zeros 10)
    ++ enc16 s.tap.pourInvalid

/-- READ_PORTS (R160, R165). -/
def portData (s : State) (p : Port) : List Byte :=
  let x := s.port p
  let c := x.counters
  enc16 c.framesIn ++ enc16 c.framesOut ++ enc16 c.crcDrops ++ enc16 c.lengthDrops ++ enc16 c.overflowDrops
    ++ enc16 c.foreignDrops ++ enc16 c.ungoverned ++ enc16 c.unmapped ++ enc16 c.clamped ++ encFlag (!x.up)
    ++ encFlag x.holdSent ++ encFlag x.heldOff ++ enc8 (s.queueTo p).length

/-! ### SHOP_STATUS (R166, R167) -/

/-- The outcome byte of the last release: 0 when none (R167). -/
def lastOutcomeCode (s : State) : Nat :=
  match s.tap.station.lastRelease with
  | some r => r.outcome.code
  | none => 0

/-- The shop part, offsets 0 to 25 (R167). -/
def statusShopPart (s : State) : List Byte :=
  let w := s.gov.window
  let st := s.tap.station
  enc8 s.store.mode.code ++ le32 s.clock ++ le32 w.number ++ enc16 w.elapsed ++ enc32 w.used ++ enc32 s.gov.allowance
    ++ enc8 (flagBits [w.demandOverrun, s.trip.stopLatch, s.trip.causePin, s.trip.causeRow, st.overdue, st.silent])
    ++ enc8 (activeCount s) ++ enc8 st.state.code
    ++ (match st.grant with
        | some g => [numberByte g.furnace]
        | none => zeros 1)
    ++ enc8 (lastOutcomeCode s) ++ enc16 s.resp.replyOverflow

/-- A furnace part, 12 bytes (R167). -/
def statusFurnacePart (s : State) (f : Furnace) : List Byte :=
  let m := s.tap.readiness[f].met
  let h := s.heatOf f
  enc8 (stageCode h)
    ++ (match h with
        | some h => le32 h.heatId
        | none => zeros 4)
    ++ enc16 (s.powerOf f).inForce
    ++ (match h with
        | some h => encInt16 h.estimate ++ enc8 (flagBits [h.estimateValid, m.allMet, h.freezeRisk])
        | none => zeros 2 ++ enc8 (flagBits [false, m.allMet, false]))
    ++ enc8 m.firstUnmet ++ enc8 (s.permitOf f).code

/-- The SHOP_STATUS frame as the state stands (R166, R167). -/
def statusFrame (s : State) : Frame where
  dst := Config.broadcast
  src := s.partAddress
  kind := Config.kindShopStatus
  payload := statusShopPart s ++ furnaces.flatMap (statusFurnacePart s)

/-- R166: the status timer expires and starts again; a fresh SHOP_STATUS takes the holding when PLANT is UP. -/
def statusEvent (s : State) : State :=
  { s with resp := { s.resp with
      statusTimer := s.startTimer s.shopEntry.statusPeriod.toNat
      statusHolding := if s.link.plant.up then some (statusFrame s) else s.resp.statusHolding } }

end Sys2Proof.Machine
end

