-- ==== Sys2Proof/Machine/Requests.lean ====
section
/-! DEFINITION. The management requests: what each owning block checks, does and answers (one definition per request, by the
rule it cites), the responder's format check and dispatch by code (R162), and the reply queue (R163). -/

namespace Sys2Proof.Machine

/-- R21: the checks of a request that names a furnace and a heat id. `argsOk` says that its other arguments lie in their
ranges. -/
def withHeat (s : State) (furnace : Byte) (heatId : Word32) (argsOk : Bool) (k : Furnace → Heat → Answer × State) :
    Answer × State :=
  if s.store.mode = .unconfigured then refuse s .unconfigured
  else match ofNumberByte 6 furnace with
    | none => refuse s .badArg
    | some f =>
      if argsOk = false then refuse s .badArg
      else match s.heatOf f with
        | none => refuse s .badState
        | some h => if h.heatId = heatId then k f h else refuse s .staleHeat

/-! ### Table store (R10, R11, R13) -/

/-- TABLE_WRITE (R10). -/
def handleTableWrite (table first count : Byte) (entries : List Byte) (s : State) : Answer × State :=
  match TableId.ofByte table with
  | none => refuse s .badArg
  | some id =>
    if entriesWithin id first count = false then refuse s .badArg
    else if entries.length ≠ count.toNat * id.entrySize then refuse s .badRequest
    else if s.store.swapPendingOf id then refuse s .swapPending
    else ({ status := .ok },
      { s with store := s.store.writeShadow id (first.toNat - id.firstNumber) count.toNat entries })

/-- TABLE_SWAP (R11). -/
def handleTableSwap (table : Byte) (s : State) : Answer × State :=
  match TableId.ofByte table with
  | none => refuse s .badArg
  | some id =>
    if s.store.swapPendingOf id then refuse s .swapPending
    else match s.store.invalidEntry id with
      | some (entry, field) => refuse s .invalidEntry (enc8 entry ++ enc8 field)
      | none =>
        match openHeatProblem s id with
        | some (entry, field) => refuse s .badState (enc8 entry ++ enc8 field)
        | none =>
          if programmeProblem s id then refuse s .badState (enc8 0 ++ enc8 1)
          else
            let adjusts := decide (id = .trip) && tripShadowNeedsLatch s.store
            let s1 := if adjusts then { s with store := s.store.adjustTrip } else s
            ({ status := .ok, adjusted := adjusts, clamped := decide (id = .programme) && indexWillBeAbsent s }, acceptSwap id s1)

/-- TABLE_READ (R13): bank selector 0 is ACTIVE, 1 is SHADOW. -/
def handleTableRead (table bank first count : Byte) (s : State) : Answer × State :=
  match TableId.ofByte table with
  | none => refuse s .badArg
  | some id =>
    if 1 < bank.toNat then refuse s .badArg
    else if entriesWithin id first count = false then refuse s .badArg
    else if id.readLimit < count.toNat then refuse s .badArg
    else
      ({ status := .ok
         data := encFlag (s.store.swapPendingOf id) ++ enc16 (s.store.swapCountOf id) ++ enc8 (s.store.activeBankOf id).code
           ++ s.store.readBank id (bank = 1) (first.toNat - id.firstNumber) count.toNat }, s)

/-! ### Heat tracker (R22, R26, R36, R39, R40, R53, R57, R58) -/

/-- The programme index that HEAT_OPEN records: an index outside 0 to 7, or of an absent entry, is recorded as 0 (R22). -/
def recordedProgramme (s : State) (b : Byte) : Fin 8 :=
  if h : b.toNat < 8 then if (s.programmeEntry ⟨b.toNat, h⟩).present = 0 then 0 else ⟨b.toNat, h⟩ else 0

/-- HEAT_OPEN (R22, R23). -/
def handleHeatOpen (furnace : Byte) (mass : Half) (programme : Byte) (s : State) : Answer × State :=
  if s.store.mode = .unconfigured then refuse s .unconfigured
  else match ofNumberByte 6 furnace with
    | none => refuse s .badArg
    | some f =>
      if ¬ (1 ≤ mass.toNat ∧ mass.toNat ≤ Config.maxBathMass) then refuse s .badArg
      else match s.heatOf f with
        | some h => refuse s .badState (le32 h.heatId)
        | none =>
          if s.configured f = false then refuse s .badState
          else if s.store.moving[f] then refuse s .badState
          else if (s.programmeEntry 0).present = 0 then refuse s .badState
          else
            let p := recordedProgramme s programme
            let s1 := s.setHeat f (some (newHeat s f mass.toNat p))
            ({ status := .ok, clamped := decide (p.val ≠ programme.toNat), data := le32 s.heat.nextHeatId ++ enc8 p.val },
              { s1 with heat := { s1.heat with nextHeatId := nextId s.heat.nextHeatId } })

/-- CHARGE_ADD (R26). -/
def handleChargeAdd (furnace : Byte) (heatId : Word32) (mass : Half) (s : State) : Answer × State :=
  withHeat s furnace heatId (within 1 Config.maxBathMass mass.toNat) fun f h =>
    let accepted := acceptedMass mass.toNat h.bathMass
    if h.stage = .tapping then refuse s .inPour
    else if Config.max32 < h.chargedTotal + accepted then refuse s .badState
    else
      let h1 := chargeStageEffect s accepted (addCharge s f accepted h)
      ({ status := .ok, clamped := decide (accepted < mass.toNat), merged := chargeListFull h
         data := enc16 accepted ++ enc16 h1.bathMass ++ enc8 h1.charges.length ++ enc8 h1.stage.code },
        s.setHeat f (some h1))

/-- The reasons HEAT_CLOSE takes (R36, coded as in R38). -/
def hostReason (b : Byte) : Option CloseReason := if b = 1 then some .drained else if b = 2 then some .abandoned else none

/-- HEAT_CLOSE (R36). -/
def handleHeatClose (furnace : Byte) (heatId : Word32) (reason : Byte) (s : State) : Answer × State :=
  withHeat s furnace heatId (hostReason reason).isSome fun f h =>
    match h.stage, hostReason reason with
    | .tapping, _ => refuse s .inPour
    | _, some r => ({ status := .ok, data := encClosed (closedEntry s f r h) }, closeHeat s f r)
    | _, none => refuse s .badArg

/-- READ_HEAT (R39): part 0 is RECORD, 1 is CHARGES. -/
def handleReadHeat (furnace part : Byte) (s : State) : Answer × State :=
  match ofNumberByte 6 furnace with
  | none => refuse s .badArg
  | some f =>
    if part = 0 then ({ status := .ok, data := heatRecordData s f }, s)
    else if part = 1 then ({ status := .ok, data := heatChargesData s f }, s)
    else refuse s .badArg

/-- READ_CLOSED (R40). -/
def handleReadClosed (first count : Byte) (s : State) : Answer × State :=
  if within 1 8 first.toNat = false then refuse s .badArg
  else if within 1 4 count.toNat = false then refuse s .badArg
  else ({ status := .ok, data := closedLogData s first.toNat count.toNat }, s)

/-- DIP_ENTER (R53). -/
def handleDipEnter (furnace : Byte) (heatId : Word32) (value : Half) (s : State) : Answer × State :=
  withHeat s furnace heatId (within 0 18000 value.toNat) fun f h =>
    let h1 := recordDip s value.toNat .host h
    ({ status := .ok, data := enc8 h1.stage.code ++ encInt16 h1.estimate }, s.setHeat f (some h1))

/-- HOLD_SET (R57). -/
def handleHoldSet (furnace : Byte) (heatId : Word32) (power duration : Half) (s : State) : Answer × State :=
  withHeat s furnace heatId true fun f h =>
    if h.stage ≠ .holding then refuse s .badState
    else
      let kw := min power.toNat (s.furnaceEntry f).rating.toNat
      let seconds := max 1 (min 3600 duration.toNat)
      ({ status := .ok, clamped := decide (kw ≠ power.toNat) || decide (seconds ≠ duration.toNat)
         data := enc16 kw ++ enc16 seconds },
        s.setHeat f (some { h with holdMode := .directed, directed := some { power := kw, timer := s.startTimer seconds } }))

/-- HOLD_RELEASE (R58). -/
def handleHoldRelease (furnace : Byte) (heatId : Word32) (s : State) : Answer × State :=
  withHeat s furnace heatId true fun f h =>
    if h.stage = .holding ∧ h.holdMode = .directed then ({ status := .ok }, s.setHeat f (some (resetHoldMode h)))
    else refuse s .badState

/-! ### Governor, cooling monitor, trip unit (R77, R112, R125 to R128) -/

/-- READ_DEMAND (R77): part 0 is CURRENT, 1 is HISTORY. -/
def handleReadDemand (part : Byte) (s : State) : Answer × State :=
  if part = 0 then ({ status := .ok, data := demandCurrentData s }, s)
  else if part = 1 then ({ status := .ok, data := demandHistoryData s }, s)
  else refuse s .badArg

/-- READ_CIRCUIT (R112). -/
def handleReadCircuit (circuit : Byte) (s : State) : Answer × State :=
  match ofNumberByte 16 circuit with
  | none => refuse s .badArg
  | some c => ({ status := .ok, data := circuitData s c }, s)

/-- Change one trip record. -/
def modifyRecord (s : State) (r : TripRow) (g : TripRecord → TripRecord) : State :=
  { s with trip := { s.trip with records := modifyAt s.trip.records r g } }

/-- READ_TRIP (R125): read since set is set after the reply is built; the summary of row 0 sets none. -/
def handleReadTrip (row : Byte) (s : State) : Answer × State :=
  if row = 0 then ({ status := .ok, data := tripSummaryData s }, s)
  else match ofNumberByte 32 row with
    | none => refuse s .badArg
    | some r => ({ status := .ok, data := tripRecordData s r }, modifyRecord s r fun x => { x with readSinceSet := true })

/-- R126: a record leaves ACTIVE by CLEAR_TRIP. -/
def clearedRecord (x : TripRecord) : TripRecord :=
  { x with state := .idle, persistenceCount := 0, clearCount := 0, causePresent := false, snapshot := none }

/-- CLEAR_TRIP (R126). -/
def handleClearTrip (row : Byte) (s : State) : Answer × State :=
  match ofNumberByte 32 row with
  | none => refuse s .badArg
  | some r =>
    if s.trip.records[r].state ≠ .active then refuse s .badState
    else if s.trip.records[r].causePresent then refuse s .causePresent
    else if s.trip.records[r].readSinceSet = false then refuse s .notRead
    else ({ status := .ok }, derivePermits (modifyRecord s r clearedRecord))

/-- R127: the latched cut of a furnace is cleared. -/
def clearLatchedCut (s : State) (f : Furnace) : State :=
  { s with trip := { s.trip with latchedCuts := s.trip.latchedCuts.set f false } }

/-- RESTORE_POWER (R127). -/
def handleRestorePower (furnace : Byte) (s : State) : Answer × State :=
  match ofNumberByte 6 furnace with
  | none => refuse s .badArg
  | some f =>
    if s.trip.latchedCuts[f] = false then refuse s .badState
    else match lowestCovering s .cut f with
      | some r => refuse s .causePresent [numberByte r]
      | none =>
        let s1 := derivePermits (clearLatchedCut s f)
        ({ status := .ok, data := enc8 (s1.permitOf f).code }, s1)

/-- R17, R128: the shop-stop latch and its causes are cleared, and the mode returns to RUNNING from SHOP_STOP. -/
def clearShopStop (s : State) : State :=
  { s with
    trip := { s.trip with stopLatch := false, causePin := false, causeRow := false }
    store := { s.store with mode := if s.store.mode = .shopStop then .running else s.store.mode } }

/-- RESTORE_SHOP (R128): cause 0 is PIN, 1 is ROW. -/
def handleRestoreShop (s : State) : Answer × State :=
  if s.trip.stopLatch = false then refuse s .badState
  else if s.estopAsserted then refuse s .causePresent (enc8 0 ++ enc8 0)
  else match lowestActive s .shopStop with
    | some r => refuse s .causePresent (enc8 1 ++ [numberByte r])
    | none => ({ status := .ok }, clearShopStop s)

/-! ### Tap arbiter (R134, R135, R137, R138, R150) -/

/-- CHEM_ACCEPT (R134). -/
def handleChemAccept (furnace : Byte) (heatId : Word32) (s : State) : Answer × State :=
  withHeat s furnace heatId true fun f h =>
    if h.stage = .superheat ∨ h.stage = .holding then
      ({ status := .ok, data := le32 s.clock }, s.setHeat f (some { h with chemistry := .accepted s.clock }))
    else refuse s .badState

/-- CHEM_REVOKE (R135). -/
def handleChemRevoke (furnace : Byte) (heatId : Word32) (s : State) : Answer × State :=
  withHeat s furnace heatId true fun f h => ({ status := .ok }, s.setHeat f (some { h with chemistry := .void }))

/-- The furnace has an entry in the tap queue. -/
def isQueued (s : State) (f : Furnace) : Bool := s.tap.queue.any fun e => e.furnace == f

/-- The furnace holds the grant, GRANTED or POURING. -/
def holdsGrant (s : State) (f : Furnace) : Bool :=
  match s.tap.station.grant with
  | some g => g.furnace == f
  | none => false

/-- The place of a furnace in the queue, from 1; 0 when it is not queued (R137). -/
def queuePlace (s : State) (f : Furnace) : Nat :=
  match s.tap.queue.findIdx? fun e => e.furnace == f with
  | some i => i + 1
  | none => 0

/-- R137 step 2: the entry joins at the tail. -/
def enqueueTap (s : State) (e : TapEntry) : State := { s with tap := { s.tap with queue := s.tap.queue ++ [e] } }

/-- TAP_REQUEST (R137). -/
def handleTapRequest (furnace : Byte) (heatId : Word32) (s : State) : Answer × State :=
  withHeat s furnace heatId true fun f h =>
    if isQueued s f || holdsGrant s f then refuse s .duplicate
    else
      let s1 := evaluateReadiness s f
      let s2 := arbitrate (enqueueTap s1 { furnace := f, heatId := h.heatId, second := s.clock })
      let m := s1.tap.readiness[f].met
      ({ status := .ok, data := encFlag m.allMet ++ enc8 m.firstUnmet ++ enc8 (queuePlace s2 f) }, s2)

/-- TAP_CANCEL (R138). -/
def handleTapCancel (furnace : Byte) (heatId : Word32) (s : State) : Answer × State :=
  withHeat s furnace heatId true fun f _ =>
    if isQueued s f then
      ({ status := .ok }, { s with tap := { s.tap with queue := s.tap.queue.filter fun e => e.furnace ≠ f } })
    else if holdsGrant s f then
      match s.tap.station.state with
      | .granted => ({ status := .ok }, withdrawAndArbitrate s .tapCancelled)
      | .pouring => refuse s .inPour
      | .free => refuse s .badState
    else refuse s .badState

/-- READ_TAP (R150): part 0 is READINESS, 1 is STATION. -/
def handleReadTap (part : Byte) (s : State) : Answer × State :=
  if part = 0 then ({ status := .ok, data := readinessData s }, s)
  else if part = 1 then ({ status := .ok, data := stationData s }, s)
  else refuse s .badArg

/-! ### Frame path and responder (R160, R168) -/

/-- READ_PORTS (R160): selector 0 is PLANT, 1 is FIELD. -/
def handleReadPorts (port : Byte) (s : State) : Answer × State :=
  if port = 0 then ({ status := .ok, data := portData s .plant }, s)
  else if port = 1 then ({ status := .ok, data := portData s .field }, s)
  else refuse s .badArg

/-- WARM_RESET (R168). -/
def handleWarmReset (s : State) : Answer × State :=
  ({ status := .ok, data := le32 s.clock }, { s with resp := { s.resp with warmPending := true } })

/-! ### Codes (R162) -/

def codeTableWrite : Byte := 0x01
def codeTableSwap : Byte := 0x02
def codeTableRead : Byte := 0x03
def codeHeatOpen : Byte := 0x10
def codeChargeAdd : Byte := 0x11
def codeHeatClose : Byte := 0x12
def codeReadHeat : Byte := 0x13
def codeReadClosed : Byte := 0x14
def codeDipEnter : Byte := 0x15
def codeHoldSet : Byte := 0x16
def codeHoldRelease : Byte := 0x17
def codeReadDemand : Byte := 0x20
def codeReadCircuit : Byte := 0x30
def codeReadTrip : Byte := 0x40
def codeClearTrip : Byte := 0x41
def codeRestorePower : Byte := 0x42
def codeRestoreShop : Byte := 0x43
def codeChemAccept : Byte := 0x50
def codeChemRevoke : Byte := 0x51
def codeTapRequest : Byte := 0x52
def codeTapCancel : Byte := 0x53
def codeReadTap : Byte := 0x54
def codeReadPorts : Byte := 0x60
def codeWarmReset : Byte := 0x70

/-- R162 step 3: the argument length of the table; any other is BAD_REQUEST. -/
def withLength (n : Nat) (args : List Byte) (k : State → Answer × State) (s : State) : Answer × State :=
  if args.length = n then k s else refuse s .badRequest

/-- R162 steps 3 and 4: the format check and the hand-over to the owning block. Arguments follow in the order each rule
lists them. -/
def executeRequest (code : Byte) (args : List Byte) (s : State) : Answer × State :=
  let b := byteAt args
  let id := wordAt args 1
  if code = codeTableWrite then
    if 3 ≤ args.length then handleTableWrite (b 0) (b 1) (b 2) (args.drop 3) s else refuse s .badRequest
  else if code = codeTableSwap then withLength 1 args (handleTableSwap (b 0)) s
  else if code = codeTableRead then withLength 4 args (handleTableRead (b 0) (b 1) (b 2) (b 3)) s
  else if code = codeHeatOpen then withLength 4 args (handleHeatOpen (b 0) (halfAt args 1) (b 3)) s
  else if code = codeChargeAdd then withLength 7 args (handleChargeAdd (b 0) id (halfAt args 5)) s
  else if code = codeHeatClose then withLength 6 args (handleHeatClose (b 0) id (b 5)) s
  else if code = codeReadHeat then withLength 2 args (handleReadHeat (b 0) (b 1)) s
  else if code = codeReadClosed then withLength 2 args (handleReadClosed (b 0) (b 1)) s
  else if code = codeDipEnter then withLength 7 args (handleDipEnter (b 0) id (halfAt args 5)) s
  else if code = codeHoldSet then withLength 9 args (handleHoldSet (b 0) id (halfAt args 5) (halfAt args 7)) s
  else if code = codeHoldRelease then withLength 5 args (handleHoldRelease (b 0) id) s
  else if code = codeReadDemand then withLength 1 args (handleReadDemand (b 0)) s
  else if code = codeReadCircuit then withLength 1 args (handleReadCircuit (b 0)) s
  else if code = codeReadTrip then withLength 1 args (handleReadTrip (b 0)) s
  else if code = codeClearTrip then withLength 1 args (handleClearTrip (b 0)) s
  else if code = codeRestorePower then withLength 1 args (handleRestorePower (b 0)) s
  else if code = codeRestoreShop then withLength 0 args handleRestoreShop s
  else if code = codeChemAccept then withLength 5 args (handleChemAccept (b 0) id) s
  else if code = codeChemRevoke then withLength 5 args (handleChemRevoke (b 0) id) s
  else if code = codeTapRequest then withLength 5 args (handleTapRequest (b 0) id) s
  else if code = codeTapCancel then withLength 5 args (handleTapCancel (b 0) id) s
  else if code = codeReadTap then withLength 1 args (handleReadTap (b 0)) s
  else if code = codeReadPorts then withLength 1 args (handleReadPorts (b 0)) s
  else if code = codeWarmReset then withLength 0 args handleWarmReset s
  else refuse s .badRequest

/-! ### The responder (R162, R163, R168) -/

/-- The MGMT_REPLY of an answer (R162): to the request's source, from the address the request was sent to. -/
def replyFrame (code tag src dst : Byte) (a : Answer) : Frame where
  dst := src
  src := dst
  kind := Config.kindMgmtReply
  payload := a.payload code tag

/-- R163: a reply joins the reply queue at the tail. -/
def queueReply (fr : Frame) (s : State) : State := { s with resp := { s.resp with replies := s.resp.replies ++ [fr] } }

/-- R162 step 1 and R168: a request that finds the reply queue full is counted, and neither executed nor answered, mark or no
mark; with room in the queue it is dropped while a warm reset is pending, and otherwise executed and its reply queued. -/
def respond (code tag src dst : Byte) (handler : State → Answer × State) (s : State) : State :=
  if Config.replyCapacity ≤ s.resp.replies.length then
    { s with resp := { s.resp with replyOverflow := count16 s.resp.replyOverflow } }
  else if s.resp.warmPending then s
  else
    let r := handler s
    queueReply (replyFrame code tag src dst r.1) r.2

/-- R162: a MGMT_REQUEST consumed by the frame path is taken by the responder. Missing code and tag bytes are 0. -/
def takeRequest (fr : Frame) (s : State) : State :=
  respond (byteAt fr.payload 0) (byteAt fr.payload 1) fr.src fr.dst
    (executeRequest (byteAt fr.payload 0) (fr.payload.drop 2)) s

end Sys2Proof.Machine
end

