-- ==== Sys2Proof/Machine/Cooling.lean ====
section
/-! DEFINITION. The cooling monitor: reading SAMPLE frames (R101 to R107), the age timer (R108) and the span timers (R109). -/

namespace Sys2Proof.Machine

/-- R103: a reading scaled to the unit of its quantity. -/
def scaleReading (e : ChannelEntry) (raw : Int) : Int :=
  clampInt (-32768) 32767 (floorDiv (raw * e.gain.toInt) 1024 + e.offset.toInt)

/-- R102: the present CHANNEL entry of a node and a channel. -/
def channelFor (s : State) (node channel : Byte) : Option ChannelEntry :=
  s.store.channel.active.toList.find? fun e => e.present != 0 && e.node == node && e.channel == channel

/-- R104: a scaled value applied to a held quantity through its deadband. -/
def applyHeld (deadband : Nat) (v : Int) (q : HeldQuantity) : HeldQuantity where
  value := match q.value with
    | none => some v
    | some x => if (v - x).natAbs ≤ deadband then some x else some v
  age := 0

/-- R105: DELTA_T is held outlet less held inlet, clamped; absent while either is absent. -/
def deltaOf (inlet outlet : Option Int) : Option Int :=
  match inlet, outlet with
  | some i, some o => some (clampInt (-32768) 32767 (o - i))
  | _, _ => none

/-- R106: the span under way takes in the held flow. -/
def widenSpan (sp : Option Span) (flow : Option Int) : Option Span :=
  match sp, flow with
  | _, none => sp
  | none, some x => some { low := x, high := x }
  | some sp, some x => some { low := min sp.low x, high := max sp.high x }

/-- R104 to R106: a scaled value applied to a quantity of a circuit. -/
def applyReading (e : CircuitEntry) (q : Quantity) (v : Int) (r : CircuitRecord) : CircuitRecord :=
  match q with
  | .flow =>
    let held := applyHeld e.flowDeadband.toNat v r.flow
    { r with flow := held, span := widenSpan r.span held.value }
  | .inlet =>
    let held := applyHeld e.inletDeadband.toNat v r.inlet
    { r with inlet := held, deltaT := deltaOf held.value r.outlet.value }
  | _ =>
    let held := applyHeld e.outletDeadband.toNat v r.outlet
    { r with outlet := held, deltaT := deltaOf r.inlet.value held.value }

/-- The touched set with one quantity more (R107). -/
def Touched.touch (t : Touched) : Quantity → Touched
  | .flow => { t with flow := true }
  | .inlet => { t with inlet := true }
  | _ => { t with outlet := true }

/-- R102: a reading with no mapping, or of a circuit not in service, is counted UNMAPPED. -/
def countUnmapped (s : State) : State := s.countPort .field fun c => { c with unmapped := count16 c.unmapped }

/-- Change one circuit record. -/
def modifyCircuit (s : State) (c : Circuit) (g : CircuitRecord → CircuitRecord) : State :=
  { s with cool := { s.cool with circuits := modifyAt s.cool.circuits c g } }

/-- R102: one reading of a SAMPLE frame, against the records as the readings before it left them. -/
def takeReading (node channel : Byte) (raw : Int) (acc : State × Vector Touched 16) : State × Vector Touched 16 :=
  match channelFor acc.1 node channel with
  | none => (countUnmapped acc.1, acc.2)
  | some e =>
    match ofNumberByte 16 e.circuit with
    | none => (countUnmapped acc.1, acc.2)
    | some c =>
      if acc.1.inService c = false then (countUnmapped acc.1, acc.2)
      else if raw < e.rawMin.toInt ∨ e.rawMax.toInt < raw then
        (modifyCircuit acc.1 c fun r => { r with bad := count16 r.bad }, acc.2)
      else
        (modifyCircuit acc.1 c (applyReading acc.1.store.circuit.active[c] e.measures (scaleReading e raw)),
         modifyAt acc.2 c fun t => t.touch e.measures)

/-- The readings of a payload in their order: channel and raw value of each 4 bytes; the reserved byte is not read (R101). -/
def readingsOf : List Byte → List (Byte × Int)
  | ch :: _ :: lo :: hi :: rest => (ch, (hi ++ lo : BitVec 16).toInt) :: readingsOf rest
  | _ => []

/-- R101: a SAMPLE frame from FIELD is read. A payload that is no whole number of readings, or longer than 116 bytes, is
counted in SAMPLE_INVALID. -/
def readSample (fr : Frame) (s : State) : State :=
  if fr.payload.length % 4 ≠ 0 ∨ 116 < fr.payload.length then
    { s with cool := { s.cool with sampleInvalid := count16 s.cool.sampleInvalid } }
  else
    let r := (readingsOf fr.payload).foldl (fun acc x => takeReading fr.src x.1 x.2 acc) (s, Vector.replicate 16 {})
    evaluateRows r.1 (dueAtFrame r.1 r.2)

/-- R108 step 1: the ages of a circuit in service rise by 1, saturating at 255. -/
def ageRecord (r : CircuitRecord) : CircuitRecord :=
  if r.present then
    { r with
      flow := { r.flow with age := satAdd Config.max8 r.flow.age 1 }
      inlet := { r.inlet with age := satAdd Config.max8 r.inlet.age 1 }
      outlet := { r.outlet with age := satAdd Config.max8 r.outlet.age 1 } }
  else r

/-- R108 step 1 for every circuit; the age timer starts again. -/
def ageCircuits (s : State) : State :=
  { s with cool := { s.cool with circuits := mapEach s.cool.circuits fun _ r => ageRecord r, ageTimer := s.startTimer 1 } }

/-- R108: an age-timer expiry: ageing, swaps, hand-off. -/
def ageEvent (s : State) : State :=
  let s1 := coolingSwaps (ageCircuits s)
  evaluateRows s1 dueAtAge

/-- R109 steps 1 and 2: the span period closes and the next opens; the timer starts again. -/
def closeSpan (s : State) (c : Circuit) (r : CircuitRecord) : CircuitRecord :=
  { r with
    lastSpan := match r.span with
      | some sp => some (sp.high - sp.low).toNat
      | none => r.lastSpan
    span := r.flow.value.map fun x => { low := x, high := x }
    spanTimer := some (s.startTimer s.store.circuit.active[c].spanPeriod.toNat) }

/-- R109: a span-timer expiry. A stopped timer does not expire. -/
def spanEvent (s : State) (c : Circuit) : State :=
  match s.cool.circuits[c].spanTimer with
  | none => s
  | some _ =>
    let s1 := modifyCircuit s c (closeSpan s c)
    evaluateRows s1 (dueAtSpan s1 c)

end Sys2Proof.Machine
end

