-- ==== Sys2Proof/Machine/Frames.lean ====
section
/-! DEFINITION. What becomes of a frame that arrives: the readers of each kind (R156's table), the disposal of a checked frame
(R156), the ingress checks (R155), and the arrival of a management request addressed to the part. -/

namespace Sys2Proof.Machine

/-! ### Dip events (R49 to R52) -/

/-- R50: a lance START. -/
def dipStart (s : State) (f : Furnace) : State :=
  let s1 := s.setDipWindow f (some (s.startTimer (s.furnaceEntry f).dipTimeout.toNat))
  lowerToCap (s1.modifyHeat f resetHoldMode) f

/-- R51: the dip window closes. -/
def closeDipWindow (s : State) (f : Furnace) : State := s.setDipWindow f none

/-- R52: a lance RESULT. -/
def dipResult (s : State) (f : Furnace) (value : Int) : State :=
  let s1 := closeDipWindow s f
  match s1.heatOf f with
  | none => { s1 with heat := { s1.heat with dipUnmatched := count16 s1.heat.dipUnmatched } }
  | some h => s1.setHeat f (some (recordDip s1 (clampInt 0 Config.maxTemperature value) .lance h))

/-- The configured furnace a DIP_EVENT names (R49). -/
def dipFurnace (s : State) (b : Byte) : Option Furnace := (ofNumberByte 6 b).filter fun f => s.configured f

/-- R49: a DIP_EVENT that cannot be read is counted. -/
def countDipInvalid (s : State) : State := { s with heat := { s.heat with dipInvalid := count16 s.heat.dipInvalid } }

/-- R49: a DIP_EVENT from FIELD is read. -/
def readDip (payload : List Byte) (s : State) : State :=
  match payload with
  | [0, b] =>
    match dipFurnace s b with
    | some f => dipStart s f
    | none => countDipInvalid s
  | [1, b, lo, hi] =>
    match dipFurnace s b with
    | some f => dipResult s f (hi ++ lo : BitVec 16).toInt
    | none => countDipInvalid s
  | [2, b] =>
    match dipFurnace s b with
    | some f => closeDipWindow s f
    | none => countDipInvalid s
  | _ => countDipInvalid s

/-! ### The readers of R156's table -/

/-- R80: a POWER_SET from PLANT, 4 bytes long, is read as a pulpit request. -/
def readPowerSet (fr : Frame) (s : State) : State :=
  match s.fedBy fr.dst (byteAt fr.payload 0) with
  | some f => recordRequest s f (carriedSetpoint fr)
  | none => s

/-- R83: a POWER_REPORT from FIELD is recorded, unless its length is not 3. -/
def readPowerReport (fr : Frame) (s : State) : State :=
  if fr.payload.length ≠ 3 then s
  else match s.fedBy fr.src (byteAt fr.payload 0) with
    | some f => recordReport s f (halfAt fr.payload 1).toNat
    | none => s

/-- R156 step 1: the frame is handed to its reader when its kind and port appear in the table. -/
def readFrame (p : Port) (fr : Frame) (s : State) : State :=
  match p with
  | .plant =>
    if fr.kind = Config.kindPowerSet then readPowerSet fr s
    else if fr.kind = Config.kindWindowSync then takeWindowSync s
    else s
  | .field =>
    if fr.kind = Config.kindSample then readSample fr s
    else if fr.kind = Config.kindPowerReport then readPowerReport fr s
    else if fr.kind = Config.kindDipEvent then readDip fr.payload s
    else if fr.kind = Config.kindPourReport ∧ fr.src = s.shopEntry.pourNode then readPourReport s fr.payload
    else s

/-! ### Disposal (R156) -/

def countForeign (p : Port) (s : State) : State := s.countPort p fun c => { c with foreignDrops := count16 c.foreignDrops }

def countLengthDrop (p : Port) (s : State) : State := s.countPort p fun c => { c with lengthDrops := count16 c.lengthDrops }

def countCrcDrop (p : Port) (s : State) : State := s.countPort p fun c => { c with crcDrops := count16 c.crcDrops }

/-- R156: a frame with a good check addressed to the part. -/
def disposeOwn (p : Port) (fr : Frame) (s : State) : State :=
  match p with
  | .plant => if fr.kind = Config.kindMgmtRequest then takeRequest fr s else countForeign .plant s
  | .field => countForeign .field s

/-- R156: a frame with a good check for any other destination: the length of a POWER_SET, its reader, the queue. -/
def disposeCrossing (p : Port) (fr : Frame) (s : State) : State :=
  if fr.kind = Config.kindPowerSet ∧ fr.payload.length ≠ 4 then countLengthDrop p s
  else offerForward p fr (readFrame p fr s)

/-- R156: disposal by destination, after every good frame on PLANT has restarted the plant silence timer (R82; log 15). -/
def disposeFrame (p : Port) (fr : Frame) (s : State) : State :=
  let s1 := if p = .plant then restartPlantSilence s else s
  if fr.dst = s1.partAddress then disposeOwn p fr s1 else disposeCrossing p fr s1

/-! ### Arrival (R152, R155) -/

/-- The end symbol of a frame: its symbols are heard, its reception is over, and it is counted in frames in (R155). -/
def hearFrame (p : Port) (s : State) : State :=
  (hearSymbol p s).modifyPort p fun x =>
    { x with receiving := false, counters := { x.counters with framesIn := count16 x.counters.framesIn } }

/-- A frame whose delimiter and check are good arrives: R155 drops it for length above 120, R156 disposes of it otherwise. -/
def frameArrives (p : Port) (fr : Frame) (s : State) : State :=
  let s1 := hearFrame p s
  if Config.maxPayload < fr.payload.length then countLengthDrop p s1 else disposeFrame p fr s1

/-- R155: the bytes between a start and an end symbol are counted, checked and disposed of. -/
def receiveBytes (p : Port) (bytes : List Byte) (s : State) : State :=
  let s1 := hearFrame p s
  match Frame.parse bytes with
  | .error .length => countLengthDrop p s1
  | .error .crc => countCrcDrop p s1
  | .ok fr => disposeFrame p fr s1

/-- A MGMT_REQUEST of a code arrives on PLANT for the part, with a good check; the responder takes it and hands it to the
handler (R156, R162). -/
def requestArrives (code src tag : Byte) (handler : State → Answer × State) (s : State) : State :=
  let s1 := restartPlantSilence (hearFrame .plant s)
  respond code tag src s.partAddress handler s1

/-! ### Resets (R161, R168 to R170) -/

/-- R42, R61: the heat tracker's warm reset. A grant is withdrawn before it (R42, R149), so the hold-interval timer of every
heat in HOLDING starts afresh here. -/
def warmHeat (s : State) (h : Heat) : Heat :=
  let h1 := resetHoldMode h
  if h1.stage = .holding then enterHolding s h1 else h1

/-- R99: the governor's warm reset of one furnace. -/
def warmPower (s : State) (f : Furnace) (p : FurnacePower) : FurnacePower :=
  if s.configured f then
    { p with
      request := none
      holding := some (holdingFor p.inForce p.lastSent)
      refresh := some (s.startTimer refreshSeconds) }
  else { p with request := none }

/-- R161: the frame path's warm reset of one port. What was being sent is over, so that the control symbols that wait go out, and a
GO after them where hold sent is set (R151; log 33). -/
def warmPort (x : PortState) : PortState :=
  { PortState.cold with
    controlSent := if x.holdSent then (x.enterGap.sendControl .go).controlSent else x.enterGap.controlSent }

/-- R18: the table store's warm reset. -/
def TableStore.warm (t : TableStore) : TableStore :=
  { t with
    shop := t.shop.cancel
    unit := t.unit.cancel
    furnace := t.furnace.cancel
    programme := t.programme.cancel
    channel := t.channel.cancel
    circuit := t.circuit.cancel
    trip := t.trip.cancel
    moving := Vector.replicate 6 false }

/-- R169: a warm reset, one event of the whole part. -/
def warmReset (s : State) : State :=
  let s1 := { s with store := s.store.warm }
  let s2 := withdrawGrant (emptyTapQueue s1) .tapReset
  let s3 := { s2 with tap := { s2.tap with pourInvalid := 0 } }
  let s4 := s3.mapHeats fun _ h => warmHeat s3 h
  let s5 := { s4 with heat := { s4.heat with dipWindows := Vector.replicate 6 none, dipInvalid := 0, dipUnmatched := 0 } }
  let s6 := restartPlantSilence (s5.mapPowers (warmPower s5))
  { s6 with
    link := { plant := warmPort s.link.plant, field := warmPort s.link.field, toField := [], toPlant := [] }
    resp := { replies := [], statusHolding := none, warmPending := false, replyOverflow := 0
              statusTimer := s6.startTimer s6.shopEntry.statusPeriod.toNat } }

/-- R168: the warm reset is taken at an event when the mark is set. -/
def warmResetIfPending (s : State) : State := if s.resp.warmPending then warmReset s else s

/-- R170: cold reset. The pin is sampled at the release, and found asserted it sets the latch with cause PIN (R124, R131). The
commands that wait are outside the part and stay. -/
def coldRestart (s : State) : State :=
  let s1 := { State.reset with estopAsserted := s.estopAsserted, pending := s.pending }
  if s.estopAsserted then setShopStop s1 true false else s1

/-- R153 and R168: the liveness timer of a port expires. A timer that does not run does not expire. -/
def livenessEvent (p : Port) (s : State) : State :=
  if (s.port p).liveness then
    match p with
    | .plant => warmResetIfPending (portDown .plant s)
    | .field => portDown .field s
  else s

/-- R158 and R168: a transmission ends; the end of the WARM_RESET reply takes the pending warm reset. -/
def transmissionEndEvent (p : Port) (s : State) : State :=
  match p with
  | .plant =>
    if warmReplyUnderWay s then warmResetIfPending (endTransmission .plant s) else endTransmission .plant s
  | .field => endTransmission .field s

/-- R168: the events at which a warm reset is taken hold: the mark is set, and the WARM_RESET reply is at the end of its
transmission or PLANT is DOWN (log 17). -/
def warmResetDue (s : State) : Bool := s.resp.warmPending && (warmReplyUnderWay s || !s.link.plant.up)

/-- R64: the allocation period expires. -/
def allocationEvent (s : State) : State :=
  let s1 := { s with gov := { s.gov with allocationTimer := s.startTimer 1 } }
  let s2 := governorSwaps (chargeAndAdvance s1)
  refreshHoldings s2.gov.furnaces (allocate s2)

/-- R82: plant silence. A stopped timer does not expire. -/
def plantSilenceEvent (s : State) : State :=
  match s.gov.plantSilence with
  | none => s
  | some _ =>
    let s1 := s.mapPowers fun _ p => { p with request := none }
    endEveryDirected { s1 with gov := { s1.gov with plantSilence := none } }

/-- R43: a furnace's integration timer expires and starts again. -/
def integrationEvent (f : Furnace) (s : State) : State :=
  let s1 := { s with heat := { s.heat with integrationTimers := s.heat.integrationTimers.set f (s.startTimer 1) } }
  s1.modifyHeat f (integrate s1 f)

/-- While RESET_N is held low the part is stopped, and an event changes nothing (R170; log 4). -/
def whileOutOfReset (g : State → State) (s : State) : Host.Outcome State Fault Refusal :=
  .next (if s.resetLow then s else g s)

end Sys2Proof.Machine
end

