-- ==== Sys2Proof/Machine/FrameCommands.lean ====
section
/-! DEFINITION. The meanings of the frame commands: a frame of one kind, with a good check, arrives on a port. -/

namespace Sys2Proof.Machine

/-- SAMPLE, R101: a SAMPLE frame arrives. -/
def execSample (p : Port) (dst src : Byte) (payload : List Byte) (s : State) : Host.Outcome State Fault Refusal :=
  whileOutOfReset (frameArrives p { dst := dst, src := src, kind := Config.kindSample, payload := payload }) s

/-- POWER_SET, R80: a POWER_SET frame arrives. -/
def execPowerSet (p : Port) (dst src : Byte) (payload : List Byte) (s : State) : Host.Outcome State Fault Refusal :=
  whileOutOfReset (frameArrives p { dst := dst, src := src, kind := Config.kindPowerSet, payload := payload }) s

/-- POWER_REPORT, R83: a POWER_REPORT frame arrives. -/
def execPowerReport (p : Port) (dst src : Byte) (payload : List Byte) (s : State) : Host.Outcome State Fault Refusal :=
  whileOutOfReset (frameArrives p { dst := dst, src := src, kind := Config.kindPowerReport, payload := payload }) s

/-- DIP_EVENT_START, R50: a DIP_EVENT with event START arrives. -/
def execDipEventStart (p : Port) (dst src : Byte) (rest : List Byte) (s : State) : Host.Outcome State Fault Refusal :=
  whileOutOfReset (frameArrives p { dst := dst, src := src, kind := Config.kindDipEvent, payload := 0 :: rest }) s

/-- DIP_EVENT_RESULT, R52: a DIP_EVENT with event RESULT arrives. -/
def execDipEventResult (p : Port) (dst src : Byte) (rest : List Byte) (s : State) : Host.Outcome State Fault Refusal :=
  whileOutOfReset (frameArrives p { dst := dst, src := src, kind := Config.kindDipEvent, payload := 1 :: rest }) s

/-- DIP_EVENT_ABORT, R51: a DIP_EVENT with event ABORT arrives. -/
def execDipEventAbort (p : Port) (dst src : Byte) (rest : List Byte) (s : State) : Host.Outcome State Fault Refusal :=
  whileOutOfReset (frameArrives p { dst := dst, src := src, kind := Config.kindDipEvent, payload := 2 :: rest }) s

/-- POUR_REPORT, R143: a POUR_REPORT frame arrives. -/
def execPourReport (p : Port) (dst src : Byte) (payload : List Byte) (s : State) : Host.Outcome State Fault Refusal :=
  whileOutOfReset (frameArrives p { dst := dst, src := src, kind := Config.kindPourReport, payload := payload }) s

/-- WINDOW_SYNC, R68: a WINDOW_SYNC frame arrives. -/
def execWindowSync (p : Port) (dst src : Byte) (payload : List Byte) (s : State) : Host.Outcome State Fault Refusal :=
  whileOutOfReset (frameArrives p { dst := dst, src := src, kind := Config.kindWindowSync, payload := payload }) s

/-- MGMT_REQUEST, R162: a MGMT_REQUEST frame arrives. -/
def execMgmtRequest (p : Port) (dst src : Byte) (payload : List Byte) (s : State) : Host.Outcome State Fault Refusal :=
  whileOutOfReset (frameArrives p { dst := dst, src := src, kind := Config.kindMgmtRequest, payload := payload }) s

end Sys2Proof.Machine
end

