-- ==== Sys2Proof/Machine/LinkCommands.lean ====
section
/-! DEFINITION. The meanings of the line symbol, egress and raw frame commands. -/

namespace Sys2Proof.Machine

/-- SYMBOL_RECEIVED_PORT_UP, R152: the first symbol received on a DOWN port brings it UP; the symbol then has its own effect. -/
def execSymbolReceivedPortUp (p : Port) (sym : LineSymbol) (s : State) : Host.Outcome State Fault Refusal :=
  whileOutOfReset (receiveSymbol p sym) s

/-- LINE_SYMBOL_RECEIVED, R152: an idle, start or data symbol restarts the liveness timer, and a start symbol begins a reception. -/
def execLineSymbolReceived (p : Port) (sym : LineSymbol) (s : State) : Host.Outcome State Fault Refusal :=
  whileOutOfReset (receiveSymbol p sym) s

/-- HOLD_RECEIVED, R152: HOLD sets held off. -/
def execHoldReceived (p : Port) (s : State) : Host.Outcome State Fault Refusal :=
  whileOutOfReset (receiveSymbol p .hold) s

/-- GO_RECEIVED, R152: GO clears held off. -/
def execGoReceived (p : Port) (s : State) : Host.Outcome State Fault Refusal :=
  whileOutOfReset (receiveSymbol p .go) s

/-- LIVENESS_TIMER_EXPIRY, R153, R168: the port becomes DOWN. -/
def execLivenessTimerExpiry (p : Port) (s : State) : Host.Outcome State Fault Refusal :=
  whileOutOfReset (livenessEvent p) s

/-- EGRESS_TRANSMISSION_START, R158: the egress chooses and starts a transmission. -/
def execEgressTransmissionStart (p : Port) (s : State) : Host.Outcome State Fault Refusal :=
  whileOutOfReset (egressStart p) s

/-- TRANSMISSION_END, R158, R168: the transmission under way ends. -/
def execTransmissionEnd (p : Port) (s : State) : Host.Outcome State Fault Refusal :=
  whileOutOfReset (transmissionEndEvent p) s

/-- FRAME_RECEIVE, R155, R156: a frame's end symbol. -/
def execFrameReceive (p : Port) (bytes : List Byte) (s : State) : Host.Outcome State Fault Refusal :=
  whileOutOfReset (receiveBytes p bytes) s

end Sys2Proof.Machine
end

