-- ==== Sys2Proof/Machine/PinCommands.lean ====
section
/-! DEFINITION. The meanings of the pin, clock and reset commands. -/

namespace Sys2Proof.Machine

/-- COLD_RESET, R170: the rising edge of RESET_N (log 4). -/
def execColdReset (s : State) : Host.Outcome State Fault Refusal :=
  .next { coldRestart s with resetLow := false }

/-- RESET_N_ASSERTION, R170: RESET_N falls low; the part stops until the rising edge (log 4). -/
def execResetNAssertion (s : State) : Host.Outcome State Fault Refusal :=
  .next { s with resetLow := true }

/-- ESTOP_N_ASSERTION, R124: the pin passes from deasserted to asserted. A pin already asserted makes no passage; while RESET_N is low only
the level changes, and COLD_RESET samples it. -/
def execEstopNAssertion (s : State) : Host.Outcome State Fault Refusal :=
  .next (if s.estopAsserted then s else if s.resetLow then { s with estopAsserted := true }
    else setShopStop { s with estopAsserted := true } true false)

/-- ESTOP_N_DEASSERTION, R124: the deassertion changes the level and nothing else. -/
def execEstopNDeassertion (s : State) : Host.Outcome State Fault Refusal :=
  .next { s with estopAsserted := false }

/-- SHOP_CLOCK_TICK, R170: the shop clock advances by one second (log 6). -/
def execShopClockTick (s : State) : Host.Outcome State Fault Refusal :=
  whileOutOfReset (fun s => { s with clock := s.clock + 1 }) s

/-- WARM_RESET_TAKEN, R168, R169: the warm reset is taken when one of its two events holds (log 17). -/
def execWarmResetTaken (s : State) : Host.Outcome State Fault Refusal :=
  whileOutOfReset (fun s => if warmResetDue s then warmReset s else s) s

end Sys2Proof.Machine
end

