-- ==== Sys2Proof/Machine/RequestCommands.lean ====
section
/-! DEFINITION. The meanings of the management requests: each is the arrival on PLANT of a MGMT_REQUEST frame addressed to the
part (log 29). -/

namespace Sys2Proof.Machine

/-- TABLE_WRITE, R10. Entries too long for one frame (R159) make a frame that R155 drops for its length. -/
def execTableWrite (src tag : Byte) (table first count : Byte) (entries : List Byte) (s : State) : Host.Outcome State Fault Refusal :=
  whileOutOfReset (fun s =>
    if Config.maxPayload < entries.length + 5 then countLengthDrop .plant (hearFrame .plant s)
    else requestArrives codeTableWrite src tag (handleTableWrite table first count entries) s) s

/-- TABLE_SWAP, R11. -/
def execTableSwap (src tag : Byte) (table : Byte) (s : State) : Host.Outcome State Fault Refusal :=
  whileOutOfReset (requestArrives codeTableSwap src tag (handleTableSwap table)) s

/-- TABLE_READ, R13. -/
def execTableRead (src tag : Byte) (table bank first count : Byte) (s : State) : Host.Outcome State Fault Refusal :=
  whileOutOfReset (requestArrives codeTableRead src tag (handleTableRead table bank first count)) s

/-- HEAT_OPEN, R22. -/
def execHeatOpen (src tag : Byte) (furnace : Byte) (mass : Half) (programme : Byte) (s : State) : Host.Outcome State Fault Refusal :=
  whileOutOfReset (requestArrives codeHeatOpen src tag (handleHeatOpen furnace mass programme)) s

/-- CHARGE_ADD, R26. -/
def execChargeAdd (src tag : Byte) (furnace : Byte) (heatId : Word32) (mass : Half) (s : State) : Host.Outcome State Fault Refusal :=
  whileOutOfReset (requestArrives codeChargeAdd src tag (handleChargeAdd furnace heatId mass)) s

/-- HEAT_CLOSE, R36. -/
def execHeatClose (src tag : Byte) (furnace : Byte) (heatId : Word32) (reason : Byte) (s : State) : Host.Outcome State Fault Refusal :=
  whileOutOfReset (requestArrives codeHeatClose src tag (handleHeatClose furnace heatId reason)) s

/-- READ_HEAT, R39. -/
def execReadHeat (src tag : Byte) (furnace part : Byte) (s : State) : Host.Outcome State Fault Refusal :=
  whileOutOfReset (requestArrives codeReadHeat src tag (handleReadHeat furnace part)) s

/-- READ_CLOSED, R40. -/
def execReadClosed (src tag : Byte) (first count : Byte) (s : State) : Host.Outcome State Fault Refusal :=
  whileOutOfReset (requestArrives codeReadClosed src tag (handleReadClosed first count)) s

/-- DIP_ENTER, R53. -/
def execDipEnter (src tag : Byte) (furnace : Byte) (heatId : Word32) (value : Half) (s : State) : Host.Outcome State Fault Refusal :=
  whileOutOfReset (requestArrives codeDipEnter src tag (handleDipEnter furnace heatId value)) s

/-- HOLD_SET, R57. -/
def execHoldSet (src tag : Byte) (furnace : Byte) (heatId : Word32) (power duration : Half) (s : State) : Host.Outcome State Fault Refusal :=
  whileOutOfReset (requestArrives codeHoldSet src tag (handleHoldSet furnace heatId power duration)) s

/-- HOLD_RELEASE, R58. -/
def execHoldRelease (src tag : Byte) (furnace : Byte) (heatId : Word32) (s : State) : Host.Outcome State Fault Refusal :=
  whileOutOfReset (requestArrives codeHoldRelease src tag (handleHoldRelease furnace heatId)) s

/-- READ_DEMAND, R77. -/
def execReadDemand (src tag : Byte) (part : Byte) (s : State) : Host.Outcome State Fault Refusal :=
  whileOutOfReset (requestArrives codeReadDemand src tag (handleReadDemand part)) s

/-- READ_CIRCUIT, R112. -/
def execReadCircuit (src tag : Byte) (circuit : Byte) (s : State) : Host.Outcome State Fault Refusal :=
  whileOutOfReset (requestArrives codeReadCircuit src tag (handleReadCircuit circuit)) s

/-- READ_TRIP, R125. -/
def execReadTrip (src tag : Byte) (row : Byte) (s : State) : Host.Outcome State Fault Refusal :=
  whileOutOfReset (requestArrives codeReadTrip src tag (handleReadTrip row)) s

/-- CLEAR_TRIP, R126. -/
def execClearTrip (src tag : Byte) (row : Byte) (s : State) : Host.Outcome State Fault Refusal :=
  whileOutOfReset (requestArrives codeClearTrip src tag (handleClearTrip row)) s

/-- RESTORE_POWER, R127. -/
def execRestorePower (src tag : Byte) (furnace : Byte) (s : State) : Host.Outcome State Fault Refusal :=
  whileOutOfReset (requestArrives codeRestorePower src tag (handleRestorePower furnace)) s

/-- RESTORE_SHOP, R128. -/
def execRestoreShop (src tag : Byte) (s : State) : Host.Outcome State Fault Refusal :=
  whileOutOfReset (requestArrives codeRestoreShop src tag handleRestoreShop) s

/-- CHEM_ACCEPT, R134. -/
def execChemAccept (src tag : Byte) (furnace : Byte) (heatId : Word32) (s : State) : Host.Outcome State Fault Refusal :=
  whileOutOfReset (requestArrives codeChemAccept src tag (handleChemAccept furnace heatId)) s

/-- CHEM_REVOKE, R135. -/
def execChemRevoke (src tag : Byte) (furnace : Byte) (heatId : Word32) (s : State) : Host.Outcome State Fault Refusal :=
  whileOutOfReset (requestArrives codeChemRevoke src tag (handleChemRevoke furnace heatId)) s

/-- TAP_REQUEST, R137. -/
def execTapRequest (src tag : Byte) (furnace : Byte) (heatId : Word32) (s : State) : Host.Outcome State Fault Refusal :=
  whileOutOfReset (requestArrives codeTapRequest src tag (handleTapRequest furnace heatId)) s

/-- TAP_CANCEL, R138. -/
def execTapCancel (src tag : Byte) (furnace : Byte) (heatId : Word32) (s : State) : Host.Outcome State Fault Refusal :=
  whileOutOfReset (requestArrives codeTapCancel src tag (handleTapCancel furnace heatId)) s

/-- READ_TAP, R150. -/
def execReadTap (src tag : Byte) (part : Byte) (s : State) : Host.Outcome State Fault Refusal :=
  whileOutOfReset (requestArrives codeReadTap src tag (handleReadTap part)) s

/-- READ_PORTS, R160. -/
def execReadPorts (src tag : Byte) (port : Byte) (s : State) : Host.Outcome State Fault Refusal :=
  whileOutOfReset (requestArrives codeReadPorts src tag (handleReadPorts port)) s

/-- WARM_RESET, R168. -/
def execWarmReset (src tag : Byte) (s : State) : Host.Outcome State Fault Refusal :=
  whileOutOfReset (requestArrives codeWarmReset src tag handleWarmReset) s

end Sys2Proof.Machine
end

