-- ==== Sys2Proof/Machine/TimerCommands.lean ====
section
/-! DEFINITION. The meanings of the timer expiries. -/

namespace Sys2Proof.Machine

/-- INTEGRATION_TIMER_EXPIRY, R43. -/
def execIntegrationTimerExpiry (f : Furnace) (s : State) : Host.Outcome State Fault Refusal :=
  whileOutOfReset (integrationEvent f) s

/-- ALLOCATION_PERIOD_EXPIRY, R64. -/
def execAllocationPeriodExpiry (s : State) : Host.Outcome State Fault Refusal :=
  whileOutOfReset allocationEvent s

/-- PLANT_SILENCE, R82. -/
def execPlantSilence (s : State) : Host.Outcome State Fault Refusal :=
  whileOutOfReset plantSilenceEvent s

/-- REFRESH_TIMER_EXPIRY, R93. -/
def execRefreshTimerExpiry (f : Furnace) (s : State) : Host.Outcome State Fault Refusal :=
  whileOutOfReset (fun s => refreshExpiry s f) s

/-- AGE_TIMER_EXPIRY, R108. -/
def execAgeTimerExpiry (s : State) : Host.Outcome State Fault Refusal :=
  whileOutOfReset ageEvent s

/-- SPAN_TIMER_EXPIRY, R109. -/
def execSpanTimerExpiry (c : Circuit) (s : State) : Host.Outcome State Fault Refusal :=
  whileOutOfReset (fun s => spanEvent s c) s

/-- HOLD_INTERVAL_EXPIRY, R55. -/
def execHoldIntervalExpiry (f : Furnace) (s : State) : Host.Outcome State Fault Refusal :=
  whileOutOfReset (fun s => s.modifyHeat f (holdIntervalEvent s f)) s

/-- DIRECTED_HOLD_EXPIRY, R59: a heat without a directed hold has no such timer. -/
def execDirectedHoldExpiry (f : Furnace) (s : State) : Host.Outcome State Fault Refusal :=
  whileOutOfReset (fun s => s.modifyHeat f endDirected) s

/-- DIP_TIMER_EXPIRY, R51: a closed window has no running timer, and closing it changes nothing. -/
def execDipTimerExpiry (f : Furnace) (s : State) : Host.Outcome State Fault Refusal :=
  whileOutOfReset (fun s => closeDipWindow s f) s

/-- READINESS_TIMER_EXPIRY, R133. -/
def execReadinessTimerExpiry (s : State) : Host.Outcome State Fault Refusal :=
  whileOutOfReset readinessEvent s

/-- TAP_WINDOW_EXPIRY, R145. -/
def execTapWindowExpiry (s : State) : Host.Outcome State Fault Refusal :=
  whileOutOfReset tapWindowEvent s

/-- STATION_SILENCE_EXPIRY, R143. -/
def execStationSilenceExpiry (s : State) : Host.Outcome State Fault Refusal :=
  whileOutOfReset stationSilenceEvent s

/-- STATUS_TIMER_EXPIRY, R166. -/
def execStatusTimerExpiry (s : State) : Host.Outcome State Fault Refusal :=
  whileOutOfReset statusEvent s

end Sys2Proof.Machine
end

