-- ==== Sys2Proof/Machine/Dispatch.lean ====
section
/-! DEFINITION. One arm per command of spec/opcode_table.json, each one direct call of the command's meaning. -/

namespace Sys2Proof.Machine

def exec (i : Instr) (s : State) : Host.Outcome State Fault Refusal :=
  match i with
  | .coldReset => Sys2Proof.Machine.execColdReset s
  | .resetNAssertion => Sys2Proof.Machine.execResetNAssertion s
  | .estopNAssertion => Sys2Proof.Machine.execEstopNAssertion s
  | .estopNDeassertion => Sys2Proof.Machine.execEstopNDeassertion s
  | .shopClockTick => Sys2Proof.Machine.execShopClockTick s
  | .symbolReceivedPortUp p sym => Sys2Proof.Machine.execSymbolReceivedPortUp p sym s
  | .lineSymbolReceived p sym => Sys2Proof.Machine.execLineSymbolReceived p sym s
  | .holdReceived p => Sys2Proof.Machine.execHoldReceived p s
  | .goReceived p => Sys2Proof.Machine.execGoReceived p s
  | .livenessTimerExpiry p => Sys2Proof.Machine.execLivenessTimerExpiry p s
  | .egressTransmissionStart p => Sys2Proof.Machine.execEgressTransmissionStart p s
  | .transmissionEnd p => Sys2Proof.Machine.execTransmissionEnd p s
  | .frameReceive p bytes => Sys2Proof.Machine.execFrameReceive p bytes s
  | .sample p dst src payload => Sys2Proof.Machine.execSample p dst src payload s
  | .powerSet p dst src payload => Sys2Proof.Machine.execPowerSet p dst src payload s
  | .powerReport p dst src payload => Sys2Proof.Machine.execPowerReport p dst src payload s
  | .dipEventStart p dst src rest => Sys2Proof.Machine.execDipEventStart p dst src rest s
  | .dipEventResult p dst src rest => Sys2Proof.Machine.execDipEventResult p dst src rest s
  | .dipEventAbort p dst src rest => Sys2Proof.Machine.execDipEventAbort p dst src rest s
  | .pourReport p dst src payload => Sys2Proof.Machine.execPourReport p dst src payload s
  | .windowSync p dst src payload => Sys2Proof.Machine.execWindowSync p dst src payload s
  | .mgmtRequest p dst src payload => Sys2Proof.Machine.execMgmtRequest p dst src payload s
  | .tableWrite src tag table first count entries => Sys2Proof.Machine.execTableWrite src tag table first count entries s
  | .tableSwap src tag table => Sys2Proof.Machine.execTableSwap src tag table s
  | .tableRead src tag table bank first count => Sys2Proof.Machine.execTableRead src tag table bank first count s
  | .heatOpen src tag furnace mass programme => Sys2Proof.Machine.execHeatOpen src tag furnace mass programme s
  | .chargeAdd src tag furnace heatId mass => Sys2Proof.Machine.execChargeAdd src tag furnace heatId mass s
  | .heatClose src tag furnace heatId reason => Sys2Proof.Machine.execHeatClose src tag furnace heatId reason s
  | .readHeat src tag furnace part => Sys2Proof.Machine.execReadHeat src tag furnace part s
  | .readClosed src tag first count => Sys2Proof.Machine.execReadClosed src tag first count s
  | .dipEnter src tag furnace heatId value => Sys2Proof.Machine.execDipEnter src tag furnace heatId value s
  | .holdSet src tag furnace heatId power duration => Sys2Proof.Machine.execHoldSet src tag furnace heatId power duration s
  | .holdRelease src tag furnace heatId => Sys2Proof.Machine.execHoldRelease src tag furnace heatId s
  | .readDemand src tag part => Sys2Proof.Machine.execReadDemand src tag part s
  | .readCircuit src tag circuit => Sys2Proof.Machine.execReadCircuit src tag circuit s
  | .readTrip src tag row => Sys2Proof.Machine.execReadTrip src tag row s
  | .clearTrip src tag row => Sys2Proof.Machine.execClearTrip src tag row s
  | .restorePower src tag furnace => Sys2Proof.Machine.execRestorePower src tag furnace s
  | .restoreShop src tag => Sys2Proof.Machine.execRestoreShop src tag s
  | .chemAccept src tag furnace heatId => Sys2Proof.Machine.execChemAccept src tag furnace heatId s
  | .chemRevoke src tag furnace heatId => Sys2Proof.Machine.execChemRevoke src tag furnace heatId s
  | .tapRequest src tag furnace heatId => Sys2Proof.Machine.execTapRequest src tag furnace heatId s
  | .tapCancel src tag furnace heatId => Sys2Proof.Machine.execTapCancel src tag furnace heatId s
  | .readTap src tag part => Sys2Proof.Machine.execReadTap src tag part s
  | .readPorts src tag port => Sys2Proof.Machine.execReadPorts src tag port s
  | .warmReset src tag => Sys2Proof.Machine.execWarmReset src tag s
  | .warmResetTaken => Sys2Proof.Machine.execWarmResetTaken s
  | .integrationTimerExpiry f => Sys2Proof.Machine.execIntegrationTimerExpiry f s
  | .allocationPeriodExpiry => Sys2Proof.Machine.execAllocationPeriodExpiry s
  | .plantSilence => Sys2Proof.Machine.execPlantSilence s
  | .refreshTimerExpiry f => Sys2Proof.Machine.execRefreshTimerExpiry f s
  | .ageTimerExpiry => Sys2Proof.Machine.execAgeTimerExpiry s
  | .spanTimerExpiry c => Sys2Proof.Machine.execSpanTimerExpiry c s
  | .holdIntervalExpiry f => Sys2Proof.Machine.execHoldIntervalExpiry f s
  | .directedHoldExpiry f => Sys2Proof.Machine.execDirectedHoldExpiry f s
  | .dipTimerExpiry f => Sys2Proof.Machine.execDipTimerExpiry f s
  | .readinessTimerExpiry => Sys2Proof.Machine.execReadinessTimerExpiry s
  | .tapWindowExpiry => Sys2Proof.Machine.execTapWindowExpiry s
  | .stationSilenceExpiry => Sys2Proof.Machine.execStationSilenceExpiry s
  | .statusTimerExpiry => Sys2Proof.Machine.execStatusTimerExpiry s

end Sys2Proof.Machine
end

