-- ==== Sys2Proof/Safety.lean ====
section
/-! DEFINITION. What a valid table is, field by field (R3 to R9), and what a sound state of the part is: the bounds and relations
the manual says always hold, each as a predicate that claims take as a premise and every step keeps. Beside them stands the
vocabulary of the claims: what the arrival of a frame does before it is read, what a reply adds, when the part serves a
request, and what a swap, a closure, a grant, a reading, an evaluation and a class of the distribution do. -/

namespace Sys2Proof.Machine

/-! ### Valid tables (R3 to R9) -/

/-- A number lies within its range, bounds included. -/
abbrev InRange (lo x hi : Nat) : Prop := lo ≤ x ∧ x ≤ hi

/-- R3. -/
def ShopEntry.inRanges (e : ShopEntry) : Bool :=
  decide (InRange 1 e.partAddress.toNat 126 ∧ e.ceiling.toNat ≤ 60000 ∧ InRange 60 e.windowLength.toNat 3600 ∧ e.windowMode.toNat ≤ 2
    ∧ (e.windowMode = 2 → InRange 2 e.syncsPerWindow.toNat 8) ∧ InRange 5 e.syncGuard.toNat 120 ∧ e.peakCap.toNat ≤ 90000
    ∧ InRange 1 e.boostLimit.toNat 6 ∧ InRange 1 e.requestLifetime.toNat 30 ∧ InRange 1 e.plantSilence.toNat 60
    ∧ InRange 1 e.statusPeriod.toNat 10 ∧ InRange 1 e.pourNode.toNat 126 ∧ InRange 30 e.tapWindow.toNat 900
    ∧ e.restAngle.toNat ≤ 200 ∧ InRange 1 e.pourSilence.toNat 30 ∧ e.pourNode ≠ e.partAddress)

/-- R4. The present flag is 0 or 1 (log 9). -/
def UnitEntry.inRanges (e : UnitEntry) : Bool :=
  decide (e.present.toNat ≤ 1 ∧ InRange 1 e.node.toNat 126 ∧ e.rating.toNat ≤ 30000 ∧ InRange 1 e.output1.toNat 6 ∧ e.output2.toNat ≤ 6
    ∧ e.output1 ≠ e.output2)

/-- R5. -/
def FurnaceEntry.inRanges (e : FurnaceEntry) : Bool :=
  decide (e.present.toNat ≤ 1 ∧ InRange 1 e.unit.toNat 3 ∧ InRange 1 e.output.toNat 2 ∧ e.rating.toNat ≤ 20000
    ∧ InRange 50 e.ramp.toNat 5000 ∧ InRange 1 e.weight.toNat 15 ∧ e.holdFloor.toNat + e.boost.toNat ≤ e.rating.toNat
    ∧ e.efficiency.toNat ≤ 1024 ∧ e.loss.toNat ≤ 2000 ∧ e.capacity.toNat ≤ 60000 ∧ e.heelMinimum.toNat ≤ e.capacity.toNat
    ∧ e.minTapMass.toNat ≤ e.capacity.toNat ∧ e.dipCap.toNat ≤ e.rating.toNat ∧ InRange 5 e.dipTimeout.toNat 60
    ∧ InRange 60 e.freezeLimit.toNat 3600)

/-- R6. -/
def ProgrammeEntry.inRanges (e : ProgrammeEntry) : Bool :=
  decide (e.present.toNat ≤ 1 ∧ e.meltOut.toNat ≤ 18000 ∧ InRange 500 e.meltEnergy.toNat 2000 ∧ InRange 400 e.specificHeat.toNat 2000
    ∧ e.holdTarget.toNat ≤ 18000 ∧ e.bandLow.toNat ≤ 2000 ∧ e.bandHigh.toNat ≤ 2000 ∧ e.tapLow.toNat ≤ e.tapHigh.toNat
    ∧ e.tapHigh.toNat ≤ 18000 ∧ InRange 30 e.dipValidity.toNat 1800 ∧ InRange 60 e.acceptanceLifetime.toNat 14400
    ∧ InRange 5 e.holdInterval.toNat 600)

/-- R7. -/
def ChannelEntry.inRanges (e : ChannelEntry) : Bool :=
  decide (e.present.toNat ≤ 1 ∧ InRange 1 e.node.toNat 126 ∧ InRange 1 e.circuit.toNat 16 ∧ e.quantity.toNat ≤ 2
    ∧ e.rawMin.toInt ≤ e.rawMax.toInt)

/-- R8. -/
def CircuitEntry.inRanges (e : CircuitEntry) : Bool :=
  decide (e.present.toNat ≤ 1 ∧ e.ownerKind.toNat ≤ 2 ∧ (e.ownerKind = 0 → InRange 1 e.ownerNumber.toNat 6)
    ∧ (e.ownerKind = 1 → InRange 1 e.ownerNumber.toNat 3) ∧ e.flowDeadband.toNat ≤ 32767 ∧ e.inletDeadband.toNat ≤ 32767
    ∧ e.outletDeadband.toNat ≤ 32767 ∧ InRange 1 e.maxAge.toNat 60 ∧ InRange 2 e.spanPeriod.toNat 120)

/-- R9. -/
def TripEntry.inRanges (e : TripEntry) : Bool :=
  decide (e.present.toNat ≤ 1 ∧ e.scopeKind.toNat ≤ 3 ∧ (e.scopeKind = 0 → InRange 1 e.scopeNumber.toNat 16)
    ∧ (e.scopeKind = 1 → InRange 1 e.scopeNumber.toNat 6) ∧ (e.scopeKind = 2 → InRange 1 e.scopeNumber.toNat 3)
    ∧ e.quantity.toNat ≤ 4 ∧ e.condition.toNat ≤ 7 ∧ InRange 1 e.persistence.toNat 15 ∧ e.action.toNat ≤ 3
    ∧ e.latching.toNat ≤ 1)

/-- No present unit has the part's own node address (R3, R4). -/
abbrev AddressesApart (shop : ShopEntry) (units : Vector UnitEntry 3) : Prop :=
  ∀ u : PowerUnit, units[u].present ≠ 0 → units[u].node ≠ shop.partAddress

/-- The hold floors of the present furnaces that name a unit (R8). -/
def floorsNaming (entries : Vector FurnaceEntry 6) (u : PowerUnit) : Nat :=
  (furnaces.map fun f =>
    if entries[f].present ≠ 0 ∧ entries[f].unit = numberByte u then entries[f].holdFloor.toNat else 0).sum

/-- The furnace on an output of a present unit is present and names that unit and that output (R8, UNIT swap). -/
abbrev OutputNamed (entries : Vector FurnaceEntry 6) (u : PowerUnit) (output number : Byte) : Prop :=
  ∀ f : Furnace, number = numberByte f →
    entries[f].present ≠ 0 ∧ entries[f].unit = numberByte u ∧ entries[f].output = output

/-- A UNIT entry of the shadow bank passes R4 and R8. -/
abbrev UnitValid (t : TableStore) (u : PowerUnit) : Prop :=
  let e := t.unit.shadow[u]
  e.present ≠ 0 → e.inRanges = true ∧ (∀ v : PowerUnit, v < u → t.unit.shadow[v].present ≠ 0 → t.unit.shadow[v].node ≠ e.node)
    ∧ e.node ≠ t.shop.companion.partAddress ∧ OutputNamed t.furnace.companion u 1 e.output1
    ∧ OutputNamed t.furnace.companion u 2 e.output2 ∧ floorsNaming t.furnace.companion u ≤ e.rating.toNat

/-- A FURNACE entry of the shadow bank passes R5 and R8. -/
abbrev FurnaceValid (t : TableStore) (f : Furnace) : Prop :=
  let bank := t.furnace.shadow
  let e := bank[f]
  e.present ≠ 0 → e.inRanges = true
    ∧ (∀ g : Furnace, g < f → bank[g].present ≠ 0 → ¬ (bank[g].unit = e.unit ∧ bank[g].output = e.output))
    ∧ ∀ u : PowerUnit, e.unit = numberByte u → t.unit.companion[u].present ≠ 0 →
      (if e.output = 1 then t.unit.companion[u].output1 else t.unit.companion[u].output2) = numberByte f
        ∧ ((∀ g : Furnace, f < g → ¬ (bank[g].present ≠ 0 ∧ bank[g].unit = numberByte u)) →
          floorsNaming bank u ≤ t.unit.companion[u].rating.toNat)

/-- A CHANNEL entry of the shadow bank passes R7. -/
abbrev ChannelValid (t : TableStore) (i : Fin 64) : Prop :=
  let e := t.channel.shadow[i]
  e.present ≠ 0 → e.inRanges = true ∧ ∀ j : Fin 64, j < i → t.channel.shadow[j].present ≠ 0 →
    ¬ (t.channel.shadow[j].node = e.node ∧ t.channel.shadow[j].channel = e.channel)

/-- The entry at a position of a table's shadow bank, counted from 0, passes every check of R11 step 3. -/
def EntryValid (t : TableStore) (id : TableId) (i : Nat) : Prop :=
  match id with
  | .shop => t.shop.shadow.inRanges = true ∧ AddressesApart t.shop.shadow t.unit.companion
  | .unit => ∀ u : PowerUnit, u.val = i → UnitValid t u
  | .furnace => ∀ f : Furnace, f.val = i → FurnaceValid t f
  | .programme => ∀ p : Fin 8, p.val = i → t.programme.shadow[p].present ≠ 0 → t.programme.shadow[p].inRanges = true
  | .channel => ∀ k : Fin 64, k.val = i → ChannelValid t k
  | .circuit => ∀ c : Circuit, c.val = i → t.circuit.shadow[c].present ≠ 0 → t.circuit.shadow[c].inRanges = true
  | .trip => ∀ r : TripRow, r.val = i → t.trip.shadow[r].present ≠ 0 → t.trip.shadow[r].inRanges = true

/-- The shadow bank of a table passes every check of R11 step 3. -/
def ShadowValid (t : TableStore) (id : TableId) : Prop := ∀ i : Nat, i < id.entries → EntryValid t id i

/-- R14: the FURNACE shadow moves this furnace, in which a heat is open, or takes it out of service. -/
abbrev FurnaceMoved (s : State) (f : Furnace) : Prop :=
  let a := s.store.furnace.active[f]
  let b := s.store.furnace.shadow[f]
  s.heatOf f ≠ none ∧ ¬ (b.present = a.present ∧ b.unit = a.unit ∧ b.output = a.output)

/-- An output of a unit feeds a furnace in which a heat is open (R14). -/
abbrev FeedsAHeat (s : State) (u : PowerUnit) (output : Byte) : Prop :=
  ∃ f : Furnace, s.heatOf f ≠ none ∧ s.configured f = true ∧ (s.furnaceEntry f).unit = numberByte u
    ∧ (s.furnaceEntry f).output = output

/-- R14: the UNIT shadow takes a furnace in which a heat is open off the output of this unit that feeds it. -/
abbrev UnitMoved (s : State) (u : PowerUnit) : Prop :=
  let a := s.store.unit.active[u]
  let b := s.store.unit.shadow[u]
  (FeedsAHeat s u 1 ∧ (b.present = 0 ∨ b.output1 ≠ a.output1)) ∨ (FeedsAHeat s u 2 ∧ (b.present = 0 ∨ b.output2 ≠ a.output2))

/-- A swap of the table is not held up by an open heat (R14, R9). -/
def HeatsAllow (s : State) : TableId → Prop
  | .furnace => ∀ f : Furnace, ¬ FurnaceMoved s f
  | .unit => ∀ u : PowerUnit, ¬ UnitMoved s u
  | .programme => (∃ f : Furnace, s.heatOf f ≠ none) → s.store.programme.shadow[(0 : Fin 8)].present ≠ 0
  | _ => True

/-! ### Sound states -/

/-- The collections are within their bounds: forward queues (R157), reply queue (R163), window history (R63), closed-heat log
(R38), charge lists (R25); the tap queue holds at most one entry per furnace (R136). -/
abbrev Bounded (s : State) : Prop :=
  s.link.toField.length ≤ 16 ∧ s.link.toPlant.length ≤ 16 ∧ s.resp.replies.length ≤ 4 ∧ s.gov.history.length ≤ 4
    ∧ s.heat.closedLog.length ≤ 8 ∧ (s.tap.queue.map (·.furnace)).Nodup
    ∧ ∀ f : Furnace, ∀ h ∈ s.heatOf f, 1 ≤ h.charges.length ∧ h.charges.length ≤ 16

/-- A frame fits the layout of R154. -/
abbrev Frame.fits (fr : Frame) : Prop := fr.payload.length ≤ 120

/-- Every frame the part holds or sends fits the layout of R154. -/
abbrev FramesFit (s : State) : Prop :=
  (∀ fr ∈ s.link.toField, fr.fits) ∧ (∀ fr ∈ s.link.toPlant, fr.fits) ∧ (∀ fr ∈ s.resp.replies, fr.fits)
    ∧ (∀ fr ∈ s.resp.statusHolding, fr.fits) ∧ (∀ tx ∈ s.link.plant.tx, tx.frame.fits) ∧ ∀ tx ∈ s.link.field.tx, tx.frame.fits

/-- The relations between the fields of an open heat: mass account (R24), OVERFILL (R24, R41), hold mode and timer by stage
(R29, R54, R57), M_r, residual and valid flag by stage (R28, R30, R32, R45, R47). -/
abbrev HeatSound (s : State) (f : Furnace) (h : Heat) : Prop :=
  h.chargedTotal = h.pouredTotal + h.bathMass ∧ h.bathMass ≤ 60000
    ∧ h.overfill = decide ((s.furnaceEntry f).capacity.toNat < h.bathMass)
    ∧ (h.stage ≠ .holding → h.holdMode = .floor ∧ h.directed = none ∧ h.holdTimer = none)
    ∧ (h.stage = .holding → h.holdTimer.isSome = true)
    ∧ (h.holdMode = .directed ↔ h.directed.isSome = true)
    ∧ (h.stage = .melting → h.estimateValid = false ∧ h.residual = 0)
    ∧ (h.stage ≠ .melting → h.estimateValid = true ∧ h.meltRemaining = 0)

/-- Every open heat's record is sound. -/
abbrev HeatsSound (s : State) : Prop := ∀ f : Furnace, ∀ h ∈ s.heatOf f, HeatSound s f h

/-- The allocation in force of a configured furnace is at or below its cap (R85, R90); a furnace that is not configured has no
power, no holding and a stopped refresh timer (R79). -/
abbrev PowerSound (s : State) : Prop :=
  ∀ f : Furnace,
    (s.configured f = true → (s.powerOf f).inForce ≤ capOf s f)
      ∧ (s.configured f = false →
        (s.powerOf f).issued = 0 ∧ (s.powerOf f).inForce = 0 ∧ (s.powerOf f).holding = none ∧ (s.powerOf f).refresh = none)

/-- The heats in BOOST are no more than the boost limit in force (R54). -/
abbrev BoostSound (s : State) : Prop := boostSlotsInUse s ≤ s.shopEntry.boostLimit.toNat

/-- A queue entry names the open heat of its furnace, which is not in TAPPING (R136). -/
abbrev TapEntrySound (s : State) (e : TapEntry) : Prop := ∃ h ∈ s.heatOf e.furnace, h.heatId = e.heatId ∧ h.stage ≠ .tapping

/-- The pour station and the tap queue: a grant is held exactly outside FREE, for an open heat in TAPPING, and no other heat is
in TAPPING (R34, R139); the tap window timer, OVERDUE and SILENT by state (R139, R145); the queue by R136. -/
abbrev TapSound (s : State) : Prop :=
  (s.tap.station.state = .free ↔ s.tap.station.grant = none)
    ∧ (∀ g ∈ s.tap.station.grant, ∃ h ∈ s.heatOf g.furnace, h.heatId = g.heatId ∧ h.stage = .tapping)
    ∧ (∀ f : Furnace, ∀ h ∈ s.heatOf f, h.stage = .tapping → ∃ g ∈ s.tap.station.grant, g.furnace = f)
    ∧ (s.tap.station.state = .free → s.tap.station.tapTimer = none ∧ s.tap.station.overdue = false ∧ s.tap.station.silent = false)
    ∧ (s.tap.station.state = .granted → s.tap.station.tapTimer.isSome = true ∧ s.tap.station.overdue = false)
    ∧ (s.tap.queue.map (·.furnace)).Nodup ∧ ∀ e ∈ s.tap.queue, TapEntrySound s e

/-- The latch is set, with PIN among its causes, whenever ESTOP_N is asserted out of reset (R124). -/
abbrev EstopSound (s : State) : Prop :=
  s.resetLow = false → s.estopAsserted = true → s.trip.stopLatch = true ∧ s.trip.causePin = true

/-- The pending swaps leave an open heat's furnace where it is and leave P0 present (R14, R9). -/
abbrev PendingKeeps (s : State) (f : Furnace) : Prop :=
  s.store.furnace.companion[f].present = s.store.furnace.active[f].present
    ∧ s.store.furnace.companion[f].unit = s.store.furnace.active[f].unit
    ∧ s.store.furnace.companion[f].output = s.store.furnace.active[f].output
    ∧ isConfigured s.store.unit.companion s.store.furnace.companion f = true
    ∧ (s.store.programme.swapPending = true → s.store.programme.shadow[(0 : Fin 8)].present ≠ 0)

/-- An open heat's furnace is configured and its programme entry present, now and after the pending swaps (R14); no heat is
open in UNCONFIGURED (R22), where no swap waits (R11); and the moving marks are as R14 computes them (isMoving, log 22). -/
abbrev ConfigSound (s : State) : Prop :=
  (s.store.mode = .unconfigured →
      (∀ f : Furnace, s.heatOf f = none) ∧ ∀ id ∈ allTables, s.store.swapPendingOf id = false)
    ∧ (∀ f : Furnace, s.store.moving[f] = isMoving s.store f)
    ∧ ∀ f : Furnace, ∀ h ∈ s.heatOf f,
        s.configured f = true ∧ (s.programmeEntry h.programme).present ≠ 0 ∧ PendingKeeps s f

/-- One bank of each table. -/
structure Banks where
  shop : ShopEntry
  units : Vector UnitEntry 3
  furnaceEntries : Vector FurnaceEntry 6
  programmes : Vector ProgrammeEntry 8
  channels : Vector ChannelEntry 64
  circuitEntries : Vector CircuitEntry 16
  trips : Vector TripEntry 32

/-- The banks in force. -/
def TableStore.banksInForce (t : TableStore) : Banks :=
  { shop := t.shop.active, units := t.unit.active, furnaceEntries := t.furnace.active, programmes := t.programme.active
    channels := t.channel.active, circuitEntries := t.circuit.active, trips := t.trip.active }

/-- The banks that stand in force once the pending swaps are performed (R8). -/
def TableStore.banksToCome (t : TableStore) : Banks :=
  { shop := t.shop.companion, units := t.unit.companion, furnaceEntries := t.furnace.companion
    programmes := t.programme.companion, channels := t.channel.companion, circuitEntries := t.circuit.companion
    trips := t.trip.companion }

/-- No two present units stand at one node (R4). -/
abbrev NodesDistinct (units : Vector UnitEntry 3) : Prop :=
  ∀ u v : PowerUnit, v < u → units[u].present ≠ 0 → units[v].present ≠ 0 → units[v].node ≠ units[u].node

/-- No two present furnaces name one output of one unit (R5). -/
abbrev OutputsDistinct (entries : Vector FurnaceEntry 6) : Prop :=
  ∀ f g : Furnace, g < f → entries[f].present ≠ 0 → entries[g].present ≠ 0 →
    ¬ (entries[g].unit = entries[f].unit ∧ entries[g].output = entries[f].output)

/-- No two present entries map one channel of one node (R7). -/
abbrev ChannelsDistinct (entries : Vector ChannelEntry 64) : Prop :=
  ∀ i j : Fin 64, j < i → entries[i].present ≠ 0 → entries[j].present ≠ 0 →
    ¬ (entries[j].node = entries[i].node ∧ entries[j].channel = entries[i].channel)

/-- The floors carried by every present unit fit its rating (R8). -/
abbrev FloorsFit (units : Vector UnitEntry 3) (entries : Vector FurnaceEntry 6) : Prop :=
  ∀ u : PowerUnit, units[u].present ≠ 0 → floorsNaming entries u ≤ units[u].rating.toNat

/-- Every present entry lies within R3 to R9, and the banks fit each other (R3, R4, R5, R7, R8); the SHOP entry counts once it
has been loaded. -/
def Banks.sound (b : Banks) (shopLoaded : Bool) : Bool :=
  (!shopLoaded || b.shop.inRanges)
    && decide (∀ u : PowerUnit, b.units[u].present ≠ 0 → b.units[u].inRanges = true)
    && decide (∀ f : Furnace, b.furnaceEntries[f].present ≠ 0 → b.furnaceEntries[f].inRanges = true)
    && decide (∀ p : Fin 8, b.programmes[p].present ≠ 0 → b.programmes[p].inRanges = true)
    && decide (∀ i : Fin 64, b.channels[i].present ≠ 0 → b.channels[i].inRanges = true)
    && decide (∀ c : Circuit, b.circuitEntries[c].present ≠ 0 → b.circuitEntries[c].inRanges = true)
    && decide (∀ r : TripRow, b.trips[r].present ≠ 0 → b.trips[r].inRanges = true)
    && decide (NodesDistinct b.units) && decide (OutputsDistinct b.furnaceEntries) && decide (ChannelsDistinct b.channels)
    && decide (FloorsFit b.units b.furnaceEntries) && decide (AddressesApart b.shop b.units)

/-- Every present entry in force, or that the pending swaps will put in force, lies within R3 to R9 (R11), the SHOP entry from its
first swap on, and those banks fit each other. In UNCONFIGURED no swap waits (R11). -/
abbrev TablesSound (s : State) : Prop :=
  let t := s.store
  (t.mode = .unconfigured → ∀ id ∈ allTables, t.swapPendingOf id = false)
    ∧ t.banksInForce.sound (decide (0 < t.shop.swapCount)) = true
    ∧ t.banksToCome.sound (t.shop.swapPending || decide (0 < t.shop.swapCount)) = true

/-- Each permit is the one the trip unit's own state gives; that of an absent furnace is CUT exactly while its latched cut is set
(R122; log 8). -/
abbrev PermitsSound (s : State) : Prop := ∀ f : Furnace, s.permitOf f = derivedPermit s f

/-- The part's own control symbols on a port: none waits between frames, hold sent says that HOLD is the last of those sent and
waiting, and no symbol follows its like (R151, R152, R157). -/
abbrev ControlsSound (x : PortState) : Prop :=
  let symbols := x.controlSent.toList ++ x.controls
  (x.tx = none → x.controls = []) ∧ (x.holdSent = true ↔ symbols.getLast? = some .hold) ∧ ∀ k < symbols.length, symbols[k]? ≠ symbols[k + 1]?

/-- The control symbols of both ports are sound. -/
abbrev LineSound (s : State) : Prop := ControlsSound s.link.plant ∧ ControlsSound s.link.field

/-- All of it at once: a safe run stays in such states. -/
abbrev Sound (s : State) : Prop :=
  Bounded s ∧ FramesFit s ∧ HeatsSound s ∧ PowerSound s ∧ BoostSound s ∧ TapSound s ∧ EstopSound s ∧ ConfigSound s ∧ PermitsSound s
    ∧ TablesSound s ∧ LineSound s

/-! ### Vocabulary of the claims -/

/-- The codes and argument lengths of section 10.2, but for TABLE_WRITE, whose length varies. -/
def requestLengths : List (Byte × Nat) :=
  [(0x02, 1), (0x03, 4), (0x10, 4), (0x11, 7), (0x12, 6), (0x13, 2), (0x14, 2), (0x15, 7), (0x16, 9), (0x17, 5), (0x20, 1),
   (0x30, 1), (0x40, 1), (0x41, 1), (0x42, 1), (0x43, 0), (0x50, 5), (0x51, 5), (0x52, 5), (0x53, 5), (0x54, 1), (0x60, 1),
   (0x70, 0)]

/-- Out of reset, the responder takes a request: no warm reset pending, room in the reply queue (R162, R168). -/
abbrev Serving (s : State) : Prop := s.resetLow = false ∧ s.resp.warmPending = false ∧ s.resp.replies.length < 4

/-- The checks of R21, in their order: the refusal that applies first, or the furnace named and its open heat. -/
def namedHeat (s : State) (furnace : Byte) (id : Word32) (argsInRange : Bool) : Except Status (Furnace × Heat) :=
  if s.store.mode = .unconfigured then .error .unconfigured
  else match ofNumberByte 6 furnace, argsInRange with
    | some f, true =>
      match s.heatOf f with
      | none => .error .badState
      | some h => if h.heatId = id then .ok (f, h) else .error .staleHeat
    | _, _ => .error .badArg

/-- A port right after a frame's end symbol: UP, heard, counted (R152, R155). -/
def arrivedPort (x : PortState) : PortState :=
  { x with
    up := true, liveness := true, receiving := false, heldOff := x.heldOff && x.up
    counters := { x.counters with framesIn := min 65535 (x.counters.framesIn + 1) } }

/-- What a good frame's arrival on PLANT does before it is disposed of (R152, R155, R82). That the plant silence timer is restarted
first, with the timeout then in force, is the model's choice (log 15). -/
def plantHeard (s : State) : State :=
  { s with
    link := { s.link with plant := arrivedPort s.link.plant }
    gov := { s.gov with plantSilence := some { start := s.clock, length := s.shopEntry.plantSilence.toNat } } }

/-- What a good frame's arrival on FIELD does before it is disposed of (R152, R155). -/
def fieldHeard (s : State) : State := { s with link := { s.link with field := arrivedPort s.link.field } }

/-- What a good frame's arrival on a port does before it is disposed of. -/
def heardOn : Port → State → State
  | .plant => plantHeard
  | .field => fieldHeard

/-- The MGMT_REPLY to a request sent to `part` (R159, R162). -/
def replyOf (part code tag src : Byte) (status : Status) (flags : Byte) (data : List Byte) : Frame :=
  { dst := src, src := part, kind := 0x69, payload := [code, tag, status.code, flags] ++ data }

/-- One reply more at the tail of the reply queue (R163). -/
def withReply (s : State) (fr : Frame) : State := { s with resp := { s.resp with replies := s.resp.replies ++ [fr] } }

/-- A request refused: the arrival, and the reply with flags 0 (R164). -/
def refusedWith (s : State) (code tag src : Byte) (status : Status) (data : List Byte := []) : State :=
  withReply (plantHeard s) (replyOf s.shopEntry.partAddress code tag src status 0 data)

/-- A request answered OK whose only effect beyond its arrival and its reply is `g`. -/
def answeredOk (s : State) (g : State → State) (code tag src : Byte) (data : List Byte := []) (flags : Byte := 0) : State :=
  withReply (g (plantHeard s)) (replyOf s.shopEntry.partAddress code tag src .ok flags data)

/-- A port whose transmission is over or cut off: the control symbols that waited have left in the gap (R151). -/
def gapPort (x : PortState) : PortState :=
  { x with
    tx := none, controls := []
    controlSent := match x.controls.getLast? with
      | some c => some c
      | none => x.controlSent }

/-- A port that has a control symbol to send: it leaves at once between frames and waits for the next gap during one (R151); hold
sent says which symbol it is (R157; log 33). -/
def controlledPort (held : Bool) (x : PortState) : PortState :=
  let c : Control := if held then .hold else .go
  if x.tx = none then { x with holdSent := held, controls := [], controlSent := some c }
  else { x with holdSent := held, controls := x.controls ++ [c] }

/-- The port that feeds a queue after the hold-off test on the queue's depth (R157). -/
def holdTestedPort (depth : Nat) (x : PortState) : PortState :=
  if 12 ≤ depth ∧ x.holdSent = false then controlledPort true x
  else if depth ≤ 4 ∧ x.holdSent = true then controlledPort false x
  else x

/-- A frame that arrived on `p` is offered to the queue toward the other port (R157, R153): appended, with the hold-off test on
`p`, or dropped and counted in `p`'s overflow drops. -/
def offered (p : Port) (fr : Frame) (s : State) : State :=
  let q := s.queueTo p.other ++ [fr]
  if (s.port p.other).up = true ∧ (s.queueTo p.other).length < 16 then
    (s.setQueueTo p.other q).modifyPort p (holdTestedPort q.length)
  else s.countPort p fun c => { c with overflowDrops := min 65535 (c.overflowDrops + 1) }

/-- The frame kinds that no block reads on either port (R156). -/
abbrev NotRead (kind : Byte) : Prop := kind ∉ ([0x11, 0x22, 0x23, 0x34, 0x45, 0x57] : List Byte)

/-- A dip of value `v`, already clamped, recorded for an open heat (R52, R53, with R31 and R32). -/
def dippedHeat (s : State) (v : Int) (source : DipSource) (h : Heat) : Heat :=
  let p := s.programmeEntry h.programme
  let melts := h.stage = .melting ∧ (p.meltOut.toNat : Int) ≤ v
  let holds := (melts ∨ h.stage = .superheat) ∧ (p.holdTarget.toNat : Int) ≤ v
  { h with
    lastDip := some { value := v, second := s.clock, source := source }
    estimate := v
    residual := 0
    estimateValid := h.estimateValid || decide (h.stage ≠ .melting) || decide melts
    meltRemaining := if melts then 0 else h.meltRemaining
    stage := if holds then .holding else if melts then .superheat else h.stage
    holdMode := if holds then .floor else h.holdMode
    holdTimer := if holds then some { start := s.clock, length := p.holdInterval.toNat } else h.holdTimer }

/-- The grant still in its tap window is this furnace's. -/
def grantedTo (s : State) (f : Furnace) : Bool :=
  match s.tap.station.state, s.tap.station.grant with
  | .granted, some g => g.furnace == f
  | _, _ => false

/-- The station after a release (R144, R146); no grant second is held with it (log 32). -/
def releasedStation (s : State) (g : Grant) (outcome : ReleaseOutcome) : Station :=
  { s.tap.station with
    state := .free, grant := none, tapTimer := none, overdue := false, silent := false
    lastRelease := some
      { furnace := g.furnace, heatId := g.heatId, second := s.clock, outcome := outcome, overdue := s.tap.station.overdue } }

/-- A heat that enters HOLDING now (R29). -/
def heldFromNow (s : State) (h : Heat) : Heat :=
  { h with
    stage := .holding, holdMode := .floor
    holdTimer := some { start := s.clock, length := (s.programmeEntry h.programme).holdInterval.toNat } }

/-- The tap state and the heat of a withdrawal, without its arbitration (R146 steps 1 to 4). -/
def withdrawn (s : State) (g : Grant) (outcome : ReleaseOutcome) : State :=
  let s1 := s.modifyHeat g.furnace (heldFromNow s)
  { s1 with tap := { s1.tap with
      station := releasedStation s g outcome
      tiltHolding := some { on := false, urgent := true, furnace := g.furnace, heatId := g.heatId } } }

/-- A frame is a POWER_SET for a furnace: its destination and output name the unit and output that feed it (R80, R95). -/
abbrev PowerSetFor (s : State) (f : Furnace) (fr : Frame) : Prop :=
  fr.kind = 0x22 ∧ s.fedBy fr.dst (byteAt fr.payload 0) = some f

/-- The forwarded frame next to leave FIELD is a POWER_SET for a furnace. -/
abbrev PowerSetNext (s : State) (f : Furnace) : Prop := ∃ fr ∈ s.link.toField.head?, PowerSetFor s f fr

/-- A POWER_SET for a furnace waits first in the queue toward FIELD and none for it is under way: the transmission start with which a
lowering arrives together, as the model reads R97 (log 14). -/
abbrev PowerSetDue (s : State) (f : Furnace) : Prop :=
  PowerSetNext s f ∧ ∀ tx ∈ s.link.field.tx, ¬ PowerSetFor s f tx.frame

/-- The governor's state of a furnace whose cap has fallen to 0 (R90, R92), its holding giving way to a POWER_SET that is due (R97). -/
def loweredToZero (s : State) (f : Furnace) : FurnacePower :=
  let p := s.powerOf f
  if s.configured f = true ∧ 0 < p.inForce then
    { p with
      inForce := 0
      holding := if p.lastSent = 0 then none else some { value := 0, urgent := true, yields := decide (PowerSetDue s f) } }
  else p

/-- The log entry of a heat closed now (R38). -/
def logEntryOf (s : State) (f : Furnace) (h : Heat) (reason : CloseReason) : ClosedHeat :=
  { heatId := h.heatId, furnace := f, programme := h.programme, openedAt := h.openedAt, closedAt := s.clock
    chargedTotal := h.chargedTotal, pouredTotal := h.pouredTotal, energyDelivered := h.energyDelivered
    reason := reason, pours := h.pours }

/-- A heat closed (R37): its record goes, the log takes its entry, the allocation in force falls to 0 and the furnace leaves the
tap queue. -/
def closedOut (s : State) (f : Furnace) (h : Heat) (reason : CloseReason) : State :=
  { s with
    heat := { s.heat with
      heats := s.heat.heats.set f none, closedLog := (logEntryOf s f h reason :: s.heat.closedLog).take 8 }
    gov := { s.gov with furnaces := s.gov.furnaces.set f (loweredToZero s f) }
    tap := { s.tap with queue := s.tap.queue.filter fun e => e.furnace ≠ f } }

/-- A grant to a queued furnace (R141, R142, R34, R90). -/
def grantedNow (s : State) (e : TapEntry) : State :=
  { s with
    heat := { s.heat with heats := s.heat.heats.set e.furnace ((s.heatOf e.furnace).map fun h =>
      { h with stage := .tapping, holdMode := .floor, directed := none, holdTimer := none }) }
    gov := { s.gov with furnaces := s.gov.furnaces.set e.furnace (loweredToZero s e.furnace) }
    tap := { s.tap with
      queue := s.tap.queue.filter fun x => x.furnace ≠ e.furnace
      station := { s.tap.station with
        state := .granted, grant := some { furnace := e.furnace, heatId := e.heatId, second := s.clock }
        tare := (s.tap.station.lastReport.map (·.weight)).getD 0, overdue := false, silent := s.tap.station.quiet
        tapTimer := some { start := s.clock, length := s.shopEntry.tapWindow.toNat } }
      tiltHolding := some { on := true, urgent := false, furnace := e.furnace, heatId := e.heatId } } }

/-- An arbitration of a FREE station (R140): the queued furnaces are evaluated, and the first found ready is granted. -/
def arbitrated (s : State) : State :=
  let evaluated := { s with tap := { s.tap with readiness := Vector.ofFn fun f =>
    if ∃ e ∈ s.tap.queue, e.furnace = f then { met := findingsOf s f, evaluatedAt := some s.clock } else s.tap.readiness[f] } }
  match s.tap.queue.find? fun e => (findingsOf s e.furnace).allMet with
  | some e => grantedNow evaluated e
  | none => evaluated

/-- The circuit, the quantity and the scaled value that a reading is applied to: none without a mapping, for a circuit not in
service, or for an implausible raw value (R102, R103). -/
def readingGoesTo (s : State) (src channel : Byte) (raw : Int) : Option (Circuit × Quantity × Int) :=
  (channelFor s src channel).bind fun e => (ofNumberByte 16 e.circuit).bind fun c =>
    if s.cool.circuits[c].present = true ∧ e.rawMin.toInt ≤ raw ∧ raw ≤ e.rawMax.toInt then
      some (c, e.measures, scaleReading e raw)
    else none

/-- The circuit whose BAD count an implausible reading raises (R103). -/
def readingIsBad (s : State) (src channel : Byte) (raw : Int) : Option Circuit :=
  (channelFor s src channel).bind fun e => (ofNumberByte 16 e.circuit).bind fun c =>
    if s.cool.circuits[c].present = true ∧ (raw < e.rawMin.toInt ∨ e.rawMax.toInt < raw) then some c else none

/-- A held value after a scaled value, through the deadband (R104). -/
def heldAfter (deadband : Half) (v : Int) (q : HeldQuantity) : Int :=
  match q.value with
  | some x => if (v - x).natAbs ≤ deadband.toNat then x else v
  | none => v

/-- A circuit record after a scaled value of FLOW, INLET or OUTLET (R104 to R106): the held value, age 0, DELTA_T and the span. -/
def readingApplied (e : CircuitEntry) (q : Quantity) (v : Int) (r : CircuitRecord) : CircuitRecord :=
  let clamped := fun (d : Int) => max (-32768) (min 32767 d)
  match q with
  | .flow =>
    let held := heldAfter e.flowDeadband v r.flow
    { r with
      flow := { value := some held, age := 0 }
      span := match r.span with
        | some sp => some { low := min sp.low held, high := max sp.high held }
        | none => some { low := held, high := held } }
  | .inlet =>
    let held := heldAfter e.inletDeadband v r.inlet
    { r with inlet := { value := some held, age := 0 }, deltaT := r.outlet.value.map fun o => clamped (o - held) }
  | _ =>
    let held := heldAfter e.outletDeadband v r.outlet
    { r with outlet := { value := some held, age := 0 }, deltaT := r.inlet.value.map fun i => clamped (held - i) }

/-- One reading of a SAMPLE frame taken (R102 to R106): applied, counted BAD, or counted UNMAPPED. -/
def readingTaken (s : State) (src channel : Byte) (raw : Int) : State :=
  match readingGoesTo s src channel raw, readingIsBad s src channel raw with
  | some (c, q, v), _ => modifyCircuit s c (readingApplied s.store.circuit.active[c] q v)
  | none, some c => modifyCircuit s c fun r => { r with bad := min 65535 (r.bad + 1) }
  | none, none => s.countPort .field fun k => { k with unmapped := min 65535 (k.unmapped + 1) }

/-- The readings of a payload, four bytes each, taken in their order (R101). -/
def readingsTaken (src : Byte) : List Byte → State → State
  | ch :: _ :: lo :: hi :: rest, s => readingsTaken src rest (readingTaken s src ch (hi ++ lo : Half).toInt)
  | _, s => s

/-- A payload touches a quantity of a circuit: one of its readings is applied to it, and INLET and OUTLET touch DELTA_T too
(R107). -/
def Touches (s : State) (src : Byte) : List Byte → Circuit → Quantity → Prop
  | ch :: _ :: lo :: hi :: rest, c, q =>
    (∃ (p : Quantity) (v : Int), readingGoesTo s src ch (hi ++ lo : Half).toInt = some (c, p, v)
        ∧ (q = p ∨ (q = .deltaT ∧ p ≠ .flow))) ∨ Touches s src rest c q
  | _, _, _ => False

/-- The record of row `k`, evaluated once against the state `m` that the event left (R119, R120), and what an activation does
(R121 to R124): `t` is the state after the event. -/
def EvaluatedAs (m t : State) (k : TripRow) : Prop :=
  let x := m.trip.records[k]
  let row := rowInForce m k
  (x.state ≠ .active →
      (circuitAtFault m row = none → t.trip.records[k] = { x with causePresent := false, persistenceCount := 0, state := .idle })
        ∧ ∀ c : Circuit, circuitAtFault m row = some c →
          (x.persistenceCount + 1 ≠ row.persistence.toNat → t.trip.records[k] =
              { x with causePresent := true, persistenceCount := x.persistenceCount + 1, state := .pending })
            ∧ (x.persistenceCount + 1 = row.persistence.toNat →
              t.trip.records[k] =
                  { state := .active, persistenceCount := 0, clearCount := 0, causePresent := true
                    setSecond := some m.clock, circuitAtSet := some c
                    valueAtSet := m.cool.circuits[c].valueOf row.watches, readSinceSet := false, snapshot := some row }
                ∧ (∀ f : Furnace, rowCovers m.store.coverBanks row f = true →
                  (row.acts = .cut → t.trip.latchedCuts[f] = true ∧ t.permitOf f = .cut
                      ∧ (m.permitOf f ≠ .cut → m.configured f = true → (t.powerOf f).inForce = 0))
                    ∧ (row.acts = .shed → t.permitOf f ≠ .permitted
                      ∧ (m.permitOf f = .permitted → m.configured f = true →
                        (t.powerOf f).inForce ≤ (m.furnaceEntry f).holdFloor.toNat)))
                ∧ (row.acts = .shopStop → t.trip.stopLatch = true ∧ t.trip.causeRow = true
                  ∧ (m.trip.stopLatch = false → t.store.mode ≠ .running ∧ t.tap.queue = []))))
    ∧ (x.state = .active → x.snapshot = some row →
      let present := decide ((circuitAtFault m row).isSome = true)
      t.trip.records[k] =
        if row.latching = 0 then { x with causePresent := present }
        else if present then { x with causePresent := true, clearCount := 0 }
        else if x.clearCount + 1 = row.persistence.toNat then
          { x with causePresent := false, state := .idle, clearCount := 0, snapshot := none }
        else { x with causePresent := false, clearCount := x.clearCount + 1 })

/-- The rows due at an event are evaluated, and no other record changes (R117). -/
def RowsEvaluated (m t : State) (due : TripEntry → Prop) : Prop :=
  ∀ k : TripRow,
    ((rowInForce m k).present ≠ 0 ∧ due (rowInForce m k) → EvaluatedAs m t k)
      ∧ (¬ ((rowInForce m k).present ≠ 0 ∧ due (rowInForce m k)) → t.trip.records[k] = m.trip.records[k])

/-- What the swaps pending among the given tables do to the store (R12, R16): the banks are exchanged, the mark is cleared, the
swap is counted; every other table stays as it was. -/
def SwapsTaken (ids : List TableId) (t u : TableStore) : Prop :=
  ∀ id : TableId,
    if id ∈ ids ∧ t.swapPendingOf id = true then
      u.swapPendingOf id = false ∧ u.swapCountOf id = min 65535 (t.swapCountOf id + 1)
        ∧ u.activeBankOf id = (t.activeBankOf id).other
        ∧ ∀ (shadow : Bool) (k n : Nat), u.readBank id shadow k n = t.readBank id (!shadow) k n
    else
      u.swapPendingOf id = t.swapPendingOf id ∧ u.swapCountOf id = t.swapCountOf id ∧ u.activeBankOf id = t.activeBankOf id
        ∧ ∀ (shadow : Bool) (k n : Nat), u.readBank id shadow k n = t.readBank id shadow k n

/-- A circuit record after a CIRCUIT swap that puts the entry `e` in force (R111). -/
def recordFollowing (s : State) (e : CircuitEntry) (r : CircuitRecord) : CircuitRecord :=
  if e.present ≠ 0 ∧ r.present = false then
    { CircuitRecord.initial with present := true, spanTimer := some { start := s.clock, length := e.spanPeriod.toNat } }
  else if e.present = 0 ∧ r.present = true then CircuitRecord.initial
  else r

/-- A trip record after a TRIP swap (R130). -/
def recordAfterSwap (x : TripRecord) : TripRecord :=
  if x.state = .active then x
  else { x with state := .idle, persistenceCount := 0, clearCount := 0, causePresent := false }

/-- The governor's state of a furnace after a UNIT or FURNACE swap, from whether it was and is configured (R98). -/
def powerFollowing (s : State) (was is : Bool) (p : FurnacePower) : FurnacePower :=
  if was = true ∧ is = false then { p with issued := 0, inForce := 0, holding := none, refresh := none }
  else if was = false ∧ is = true then { p with issued := 0, inForce := 0, refresh := some { start := s.clock, length := 2 } }
  else p

/-- An ACTIVE CUT record covers a furnace after a swap that it did not cover before it (R123, widened cover). -/
abbrev NewlyCovered (s : State) (t u : TableStore) (f : Furnace) : Prop :=
  ∃ r : TripRow, activeCovers s u.coverBanks .cut f r = true ∧ activeCovers s t.coverBanks .cut f r = false

/-- The permit that a derivation in the state `u` gives a furnace whose permit was `before` (R122; log 8). -/
def permitFrom (u : State) (before : Permit) (f : Furnace) : Permit :=
  if u.trip.latchedCuts[f] then .cut
  else if (u.furnaceEntry f).present = 0 then (if before = .cut then .permitted else before)
  else if ∃ r : TripRow, activeCovers u u.store.coverBanks .shed f r = true then .shed
  else .permitted

/-- The headroom of a furnace's unit when the furnaces before it hold `after` and the others `before` (R88). -/
def headroomThen (s : State) (before after : Furnace → Nat) (f : Furnace) : Nat :=
  match s.feedingUnit f with
  | some u =>
    s.store.unit.active[u].rating.toNat
      - (furnaces.map fun g => if s.feedingUnit g = some u then (if g < f then after g else before g) else 0).sum
  | none => 0

/-- One class of the distribution served from the pool (R88): `before` and `after` are the grants before and after it, `left` the
pool it leaves. Where the pool suffices each claim is granted within the headroom remaining (log 7). -/
def ClassServed (s : State) (member : Furnace → Bool) (amount before after : Furnace → Nat) (pool left : Nat) : Prop :=
  let claim := fun f => if member f then min (amount f) (headroomThen s before before f) else 0
  let granted := (furnaces.map fun f => after f - before f).sum
  left = pool - granted
    ∧ ((furnaces.map claim).sum ≤ pool → ∀ f : Furnace, after f = before f + min (claim f) (headroomThen s before after f))
    ∧ (pool < (furnaces.map claim).sum →
      let weights := (furnaces.map fun f => if 0 < claim f then (s.furnaceEntry f).weight.toNat else 0).sum
      let share := fun f => 1024 * (s.furnaceEntry f).weight.toNat / weights
      ∃ shared : Furnace → Nat,
        (∀ f : Furnace, shared f = before f + min (min (claim f) (pool * share f / 1024)) (headroomThen s before shared f))
          ∧ ∀ f : Furnace,
            let unmet := claim f - (shared f - before f)
            let leftover := pool - (furnaces.map fun g => shared g - before g).sum
              - (furnaces.map fun g => if g < f then after g - shared g else 0).sum
            after f = shared f + min (min unmet (headroomThen s shared after f)) leftover)

end Sys2Proof.Machine
end

