-- ==== Sys2Proof/Certificates/Slice0/Obligations.lean ====
section
/-! DEFINITION. The statements for the provers, in the order of OBLIGATIONS.json. The vocabulary they share (what an arrival
does, what a reply is, the sound states) stands in Sys2Proof/Safety.lean. -/

open Sys2Proof Sys2Proof.Machine

/-! ### Steps, resets, pins -/

/-- The front command of the queue is executed with the rest of the queue; an empty queue idles (log 3). -/
def Obligations.StepTakesFrontCommand : Prop :=
  (∀ (c : Instr) (rest : List Instr) (s : State),
      step { s with pending := c :: rest } = exec c { s with pending := rest })
    ∧ ∀ s : State, step { s with pending := [] } = .next { s with pending := [] }

/-- Every command answers a next state and leaves the queue; only SHOP_CLOCK_TICK and COLD_RESET move the shop clock, only the
pin commands move the pins' levels; the tick moves the clock alone, modulo 2^32 (log 6), ESTOP_N_DEASSERTION the level alone (R124, R170). -/
def Obligations.OnlyTickAndPinsMoveClockAndPins : Prop :=
  (∀ s : State, exec .estopNDeassertion s = .next { s with estopAsserted := false }
      ∧ (s.resetLow = false → exec .shopClockTick s = .next { s with clock := s.clock + 1 }))
    ∧ ∀ (c : Instr) (s : State), ∃ t : State,
    exec c s = .next t ∧ t.pending = s.pending
      ∧ (c ≠ .shopClockTick → c ≠ .coldReset → t.clock = s.clock)
      ∧ (c ≠ .estopNAssertion → c ≠ .estopNDeassertion → t.estopAsserted = s.estopAsserted)
      ∧ (c ≠ .resetNAssertion → c ≠ .coldReset → t.resetLow = s.resetLow)

/-- Every value the manual gives for cold reset (R1, R3 to R9, R20, R38, R61 to R63, R78, R99, R100, R113, R118, R131, R132, R139,
R143, R149, R161, R163, R166): both banks of the seven tables, the window record, the records of furnaces, circuits, rows, the
pour station and the ports, and every timer, started at the release of reset or stopped. A running timer is shown by its start
and its length, in the form of logs 1 and 24. -/
def Obligations.ColdResetValuesAsStated : Prop :=
  let r := State.reset
  (r.clock = 0 ∧ r.store.mode = .unconfigured
    ∧ ∀ id ∈ allTables, r.store.activeBankOf id = .a ∧ r.store.swapPendingOf id = false ∧ r.store.swapCountOf id = 0
        ∧ ∀ k n : Nat, r.store.readBank id true k n = r.store.readBank id false k n)
    ∧ (r.shopEntry =
        { partAddress := 100, ceiling := 0, windowLength := 900, windowMode := 0, syncsPerWindow := 2, syncGuard := 30
          peakCap := 0, boostLimit := 2, requestLifetime := 5, plantSilence := 10, statusPeriod := 1, pourNode := 0
          tapWindow := 180, restAngle := 0, pourSilence := 5 }
      ∧ (∀ u : PowerUnit, r.store.unit.active[u] = { present := 0, node := 0, rating := 0, output1 := 0, output2 := 0 })
      ∧ (∀ f : Furnace, r.furnaceEntry f =
        { present := 0, unit := 1, output := 1, rating := 0, ramp := 0, weight := 0, holdFloor := 0, boost := 0
          efficiency := 0, loss := 0, capacity := 0, heelMinimum := 0, minTapMass := 0, dipCap := 0, dipTimeout := 20
          freezeLimit := 0 })
      ∧ (∀ p : Fin 8, r.programmeEntry p =
        { present := 0, meltOut := 0, meltEnergy := 0, specificHeat := 0, holdTarget := 0, bandLow := 0, bandHigh := 0
          tapLow := 0, tapHigh := 0, dipValidity := 300, acceptanceLifetime := 0, holdInterval := 30 })
      ∧ (∀ i : Fin 64, r.store.channel.active[i] =
        { present := 0, node := 0, channel := 0, circuit := 1, quantity := 0, gain := 0, offset := 0, rawMin := 0, rawMax := 0 })
      ∧ (∀ c : Circuit, r.store.circuit.active[c] =
        { present := 0, ownerKind := 2, ownerNumber := 0, flowDeadband := 0, inletDeadband := 0, outletDeadband := 0
          maxAge := 0, spanPeriod := 0 })
      ∧ ∀ k : TripRow, r.store.trip.active[k] =
        { present := 0, scopeKind := 0, scopeNumber := 0, quantity := 0, condition := 0, thresholdA := 0, thresholdB := 0
          persistence := 0, action := 0, latching := 0 })
    ∧ (∀ f : Furnace, r.heatOf f = none ∧ r.dipWindow f = none ∧ r.permitOf f = .permitted ∧ r.trip.latchedCuts[f] = false
        ∧ r.store.moving[f] = false
        ∧ r.powerOf f =
          { issued := 0, inForce := 0, request := none, lastSent := 0, holding := none, refresh := none, report := none }
        ∧ r.tap.readiness[f] =
          { met := { stage := false, dip := false, estimate := false, chemistry := false, permit := false, mass := false, freeze := false }
            evaluatedAt := none })
    ∧ (r.heat.nextHeatId = 1 ∧ r.heat.closedLog = [] ∧ r.heat.dipInvalid = 0 ∧ r.heat.dipUnmatched = 0
      ∧ ∀ f : Furnace, r.heat.integrationTimers[f] = { start := 0, length := 1 })
    ∧ (r.gov.window =
        { number := 0, elapsed := 0, used := 0, overrun := 0, peak := 0, syncCount := 0, demandOverrun := false
          issuedTotal := 0, floorExcess := 0, missedSyncs := 0, ignoredSyncs := 0, budget := 0, remaining := 900 }
      ∧ r.gov.history = [] ∧ r.gov.allowance = 0 ∧ r.gov.plantSilence = some { start := 0, length := 10 }
      ∧ r.gov.allocationTimer = { start := 0, length := 1 })
    ∧ ((∀ c : Circuit, r.cool.circuits[c] =
          { present := false, flow := { value := none, age := 255 }, inlet := { value := none, age := 255 }
            outlet := { value := none, age := 255 }, deltaT := none, span := none, lastSpan := none, bad := 0, spanTimer := none })
      ∧ r.cool.sampleInvalid = 0 ∧ r.cool.ageTimer = { start := 0, length := 1 })
    ∧ ((∀ k : TripRow, r.trip.records[k] =
          { state := .idle, persistenceCount := 0, clearCount := 0, causePresent := false, setSecond := none
            circuitAtSet := none, valueAtSet := none, readSinceSet := false, snapshot := none })
      ∧ r.trip.stopLatch = false ∧ r.trip.causePin = false ∧ r.trip.causeRow = false)
    ∧ (r.tap.queue = [] ∧ r.tap.tiltHolding = none ∧ r.tap.pourInvalid = 0
      ∧ r.tap.readinessTimer = { start := 0, length := 1 } ∧ r.tap.silenceTimer = none
      ∧ r.tap.station =
        { state := .free, grant := none, tapTimer := none, tare := 0, lastReport := none, quiet := true, overdue := false
          silent := false, lastRelease := none })
    ∧ (∀ p : Port, (r.port p).up = false ∧ (r.port p).holdSent = false ∧ (r.port p).heldOff = false
        ∧ (r.port p).controls = [] ∧ (r.port p).controlSent = none
        ∧ (r.port p).lastServed = .originated ∧ r.queueTo p = []
        ∧ (r.port p).counters =
          { framesIn := 0, framesOut := 0, crcDrops := 0, lengthDrops := 0, overflowDrops := 0, foreignDrops := 0
            ungoverned := 0, unmapped := 0, clamped := 0 })
    ∧ r.resp.replies = [] ∧ r.resp.statusHolding = none ∧ r.resp.warmPending = false ∧ r.resp.replyOverflow = 0
    ∧ r.resp.statusTimer = { start := 0, length := 1 }

/-- The state after cold reset is sound in every respect of Safety.lean. -/
def Obligations.ResetStateIsSound : Prop := Sound State.reset

/-- COLD_RESET in every state: cold-reset values with ESTOP_N deasserted; with it asserted, the latch set with cause PIN and
the mode UNCONFIGURED (R131, R170). The commands that wait stay (log 4). RESET_N held low: its assertion changes nothing but the
level, and until the rising edge every command but the pins' own changes nothing (the model's choice, log 4). -/
def Obligations.ResetPinStopsAndRestartsThePart : Prop :=
  ∀ s : State,
    (s.estopAsserted = false → exec .coldReset s = .next { State.reset with pending := s.pending })
      ∧ (s.estopAsserted = true →
        exec .coldReset s = .next
          { State.reset with
            pending := s.pending, estopAsserted := true
            trip := { State.reset.trip with stopLatch := true, causePin := true } })
      ∧ exec .resetNAssertion s = .next { s with resetLow := true }
      ∧ (s.resetLow = true → exec .estopNAssertion s = .next { s with estopAsserted := true })
      ∧ ∀ c : Instr, s.resetLow = true → c ≠ .coldReset → c ≠ .estopNAssertion → c ≠ .estopNDeassertion →
        exec c s = .next s

/-- ESTOP_N asserted (R124). On a latch already set the cause PIN is added and nothing is handed on. On a clear latch the mode
goes from RUNNING to SHOP_STOP, every configured furnace to 0 with its holding in step (R90, R92), every hold mode to FLOOR, the
tap queue empties and a grant in its tap window is withdrawn TAP_STOPPED; nothing else changes. -/
def Obligations.EstopAssertionStopsTheShop : Prop :=
  ∀ s : State, s.resetLow = false → s.estopAsserted = false →
    (s.trip.stopLatch = true →
        exec .estopNAssertion s = .next { s with estopAsserted := true, trip := { s.trip with causePin := true } })
      ∧ (s.trip.stopLatch = false →
        let halted := fun (f : Furnace) (h : Heat) =>
          if grantedTo s f then { heldFromNow s h with directed := none } else { h with holdMode := .floor, directed := none }
        let stopped : State :=
          { s with
            estopAsserted := true
            trip := { s.trip with stopLatch := true, causePin := true }
            store := { s.store with mode := if s.store.mode = .running then .shopStop else s.store.mode }
            heat := { s.heat with heats := Vector.ofFn fun f => (s.heatOf f).map (halted f) }
            gov := { s.gov with furnaces := Vector.ofFn (loweredToZero s) }
            tap := { s.tap with queue := [] } }
        (s.tap.station.state ≠ .granted ∨ s.tap.station.grant = none → exec .estopNAssertion s = .next stopped)
          ∧ ∀ g : Grant, s.tap.station.state = .granted → s.tap.station.grant = some g →
            exec .estopNAssertion s = .next
              { stopped with tap := { stopped.tap with
                  station := releasedStation s g .tapStopped
                  tiltHolding := some { on := false, urgent := true, furnace := g.furnace, heatId := g.heatId } } })

/-! ### Line symbols and ports -/

/-- Each symbol restarts the liveness timer and brings a DOWN port UP with held off clear; HOLD sets held off, GO clears it,
a start symbol begins a reception (R152). -/
def Obligations.SymbolsKeepThePortUp : Prop :=
  ∀ (s : State) (p : Port), s.resetLow = false →
    let x := s.port p
    let heard : PortState := { x with up := true, liveness := true, heldOff := x.heldOff && x.up }
    exec (.lineSymbolReceived p .idle) s = .next (s.setPort p heard)
      ∧ (∀ b : Byte, exec (.lineSymbolReceived p (.data b)) s = .next (s.setPort p heard))
      ∧ exec (.lineSymbolReceived p .frameStart) s = .next (s.setPort p { heard with receiving := true })
      ∧ exec (.holdReceived p) s = .next (s.setPort p { heard with heldOff := true })
      ∧ exec (.goReceived p) s = .next (s.setPort p { heard with heldOff := false })
      ∧ (x.up = false →
        (∀ sym ∈ ([.idle, .go, .frameEnd] : List LineSymbol), ∃ t : State,
            exec (.symbolReceivedPortUp p sym) s = .next t
              ∧ t = s.setPort p { heard with heldOff := false, receiving := sym ≠ .frameEnd && x.receiving })
          ∧ (∀ b : Byte,
            exec (.symbolReceivedPortUp p (.data b)) s = .next (s.setPort p { heard with heldOff := false }))
          ∧ exec (.symbolReceivedPortUp p .frameStart) s =
            .next (s.setPort p { heard with heldOff := false, receiving := true })
          ∧ exec (.symbolReceivedPortUp p .hold) s = .next (s.setPort p { heard with heldOff := true }))

/-- A port becomes DOWN at the expiry of its liveness timer (R153): the reception and the transmission are lost, its egress queue
is emptied, a HOLD toward the other port is taken back by a GO, which waits where a frame is being sent (R151, R157); held off is
cleared; PLANT also loses the replies and the status holding. Holdings of the other blocks are kept; none gives way to a frame any
more (log 14). The expiry of a liveness timer that does not run changes nothing (the model's choice, logs 1 and 24). TRANSMISSION_END
frees the egress, and the control symbols that waited leave in the gap (R151); it changes nothing else, but at the end of the
WARM_RESET reply (R158, R168). -/
def Obligations.LivenessExpiryAndTransmissionEnd : Prop :=
  ∀ s : State, s.resetLow = false →
    let downed := fun x : PortState => { gapPort x with up := false, liveness := false, receiving := false, heldOff := false }
    (s.link.field.liveness = true →
        exec (.livenessTimerExpiry .field) s = .next
          { s with
            link := { s.link with plant := holdTestedPort 0 s.link.plant, field := downed s.link.field, toField := [] }
            gov := { s.gov with furnaces := Vector.ofFn fun f =>
              { s.powerOf f with holding := (s.powerOf f).holding.map fun h => { h with yields := false } } } })
      ∧ (s.link.plant.liveness = true → s.resp.warmPending = false →
        exec (.livenessTimerExpiry .plant) s = .next
          { s with
            link := { s.link with plant := downed s.link.plant, field := holdTestedPort 0 s.link.field, toPlant := [] }
            resp := { s.resp with replies := [], statusHolding := none } })
      ∧ ∀ p : Port,
        ((s.port p).liveness = false → exec (.livenessTimerExpiry p) s = .next s)
          ∧ ((p = .plant → s.resp.warmPending = false ∨ warmReplyUnderWay s = false) →
            exec (.transmissionEnd p) s = .next (s.setPort p (gapPort (s.port p))))

/-! ### The egress arbiter -/

/-- The PLANT egress (R158): it waits while DOWN, held off or busy; replies go before the status holding; originated and
forwarded frames take turns by last served; the hold-off test follows a departure (R157), its symbol waiting while FIELD is sending
(R151). -/
def Obligations.PlantEgressServesInTurn : Prop :=
  ∀ s : State, s.resetLow = false →
    let x := s.link.plant
    let sends := fun (src : TxSource) (fr : Frame) (turn : Served) =>
      { x with
        tx := some { source := src, frame := fr }, lastServed := turn
        counters := { x.counters with framesOut := min 65535 (x.counters.framesOut + 1) } }
    (∀ p : Port, (s.port p).up = false ∨ (s.port p).heldOff = true ∨ (s.port p).tx.isSome = true →
        exec (.egressTransmissionStart p) s = .next s)
      ∧ (x.up = true → x.heldOff = false → x.tx = none →
        (∀ fr rest, s.resp.replies = fr :: rest → s.link.toPlant = [] ∨ x.lastServed = .forwarded →
            exec (.egressTransmissionStart .plant) s = .next
              { s with link := { s.link with plant := sends .reply fr .originated }, resp := { s.resp with replies := rest } })
          ∧ (∀ fr, s.resp.replies = [] → s.resp.statusHolding = some fr →
              s.link.toPlant = [] ∨ x.lastServed = .forwarded →
            exec (.egressTransmissionStart .plant) s = .next
              { s with
                link := { s.link with plant := sends .status fr .originated }, resp := { s.resp with statusHolding := none } })
          ∧ (∀ fr rest, s.link.toPlant = fr :: rest →
              (s.resp.replies = [] ∧ s.resp.statusHolding = none) ∨ x.lastServed = .originated →
            exec (.egressTransmissionStart .plant) s = .next
              { s with link :=
                { s.link with
                  plant := sends .forwarded fr .forwarded, toPlant := rest
                  field := holdTestedPort rest.length s.link.field } })
          ∧ (s.resp.replies = [] → s.resp.statusHolding = none → s.link.toPlant = [] →
            exec (.egressTransmissionStart .plant) s = .next s))

/-- The originated frames on FIELD (R142, R158, R94): an URGENT tilt permit, then the lowest-numbered URGENT setpoint, leave ahead
of all else and leave last served; a NORMAL tilt permit, then the lowest NORMAL setpoint, take the NORMAL turn where nothing
URGENT waits. A setpoint passes the clamp and is recorded as last sent (R95), at 0 and counted UNGOVERNED in UNCONFIGURED (R96;
log 18). A setpoint that gives way to a forwarded POWER_SET (R97; log 14) is the next statement's. -/
def Obligations.FieldEgressServesUrgentFirst : Prop :=
  ∀ (s : State) (urgent : Bool), s.resetLow = false → s.link.field.up = true → s.link.field.heldOff = false →
    s.link.field.tx = none →
    (urgent = false →
      (∀ t ∈ s.tap.tiltHolding, t.urgent = false) ∧ (∀ g : Furnace, ∀ k ∈ (s.powerOf g).holding, k.urgent = false)
        ∧ (s.link.toField = [] ∨ s.link.field.lastServed = .forwarded)) →
    let x := s.link.field
    let turn := if urgent then x.lastServed else .originated
    let counted := { x.counters with framesOut := min 65535 (x.counters.framesOut + 1) }
    (∀ t : TiltHolding, s.tap.tiltHolding = some t → t.urgent = urgent →
        exec (.egressTransmissionStart .field) s = .next
          { s with
            tap := { s.tap with tiltHolding := none }
            link := { s.link with field :=
              { x with
                tx := some
                  { source := .tilt
                    frame :=
                      { dst := s.shopEntry.pourNode, src := s.shopEntry.partAddress, kind := 0x46
                        payload := [if t.on then 1 else 0, numberByte t.furnace] ++ le32 t.heatId } }
                lastServed := turn
                counters := counted } } })
      ∧ ∀ (f : Furnace) (u : PowerUnit) (h : SetpointHolding),
        (∀ t ∈ s.tap.tiltHolding, t.urgent = !urgent) →
        (s.powerOf f).holding = some h → h.urgent = urgent → h.value ≤ 65535 → h.yields = false ∨ ¬ PowerSetNext s f →
        (∀ g : Furnace, g < f → ∀ k ∈ (s.powerOf g).holding, k.urgent = !urgent) →
        (s.furnaceEntry f).unitIndex = some u →
        s.fedBy s.store.unit.active[u].node (s.furnaceEntry f).output = some f →
        let idle := s.store.mode = .unconfigured
        let sent := if idle then 0 else min h.value (s.powerOf f).inForce
        let recorded : FurnacePower :=
          { s.powerOf f with holding := none, lastSent := sent, refresh := some { start := s.clock, length := 2 } }
        exec (.egressTransmissionStart .field) s = .next
          { s with
            gov := { s.gov with furnaces := s.gov.furnaces.set f recorded }
            link := { s.link with field :=
              { x with
                tx := some
                  { source := .setpoint f
                    frame :=
                      { dst := s.store.unit.active[u].node, src := s.shopEntry.partAddress, kind := 0x22
                        payload := [(s.furnaceEntry f).output, if sent < h.value then 1 else 0] ++ enc16 sent } }
                lastServed := turn
                counters := { counted with
                  clamped := if ¬ idle ∧ sent < h.value then min 65535 (x.counters.clamped + 1) else x.counters.clamped
                  ungoverned := if idle then min 65535 (x.counters.ungoverned + 1) else x.counters.ungoverned } } } }

/-- A forwarded frame on FIELD, in its NORMAL turn, by last served or because nothing originated waits (R158), or, a POWER_SET, in the
place of the setpoint first in line that gives way to it (R97; log 14): any other kind leaves as it arrived; a POWER_SET for a configured furnace leaves with the smaller of its setpoint and the allocation in force, CLAMPED
set and counted when lowered (R95), or with 0 and counted UNGOVERNED in UNCONFIGURED (R96; log 18), is recorded as last sent and
has the holding judged again, an equal one being withdrawn (R92); one that finds no furnace leaves with 0, UNGOVERNED (R96). -/
def Obligations.ForwardedPowerSetIsClamped : Prop :=
  ∀ (s : State) (fr : Frame) (rest : List Frame), s.resetLow = false → s.link.field.up = true → s.link.field.heldOff = false →
    s.link.field.tx = none → s.link.toField = fr :: rest →
    ((∀ t ∈ s.tap.tiltHolding, t.urgent = false) ∧ (∀ g : Furnace, ∀ k ∈ (s.powerOf g).holding, k.urgent = false)
        ∧ (s.link.field.lastServed = .originated ∨ (s.tap.tiltHolding = none ∧ ∀ g : Furnace, (s.powerOf g).holding = none)))
      ∨ (∃ f : Furnace, PowerSetFor s f fr ∧ ∃ h ∈ (s.powerOf f).holding, h.yields = true
        ∧ (∀ t ∈ s.tap.tiltHolding, h.urgent = true ∧ t.urgent = false)
        ∧ ∀ g : Furnace, ∀ k ∈ (s.powerOf g).holding, if k.urgent = h.urgent then f ≤ g else h.urgent = true) →
    let x := s.link.field
    let out := byteAt fr.payload 0
    let carried := (halfAt fr.payload 2).toNat
    let rewritten := fun (n : Nat) =>
      { fr with payload := [out, if n < carried then 1 else 0] ++ enc16 n }
    let leaves := fun (sent : Frame) (counters : Counters) (furnaces : Vector FurnacePower 6) =>
      exec (.egressTransmissionStart .field) s = .next
        { s with
          gov := { s.gov with furnaces := furnaces }
          link := { s.link with
            toField := rest
            plant := holdTestedPort rest.length s.link.plant
            field := { x with
              tx := some { source := .forwarded, frame := sent }, lastServed := .forwarded
              counters := { counters with framesOut := min 65535 (x.counters.framesOut + 1) } } } }
    let ungoverned := { x.counters with ungoverned := min 65535 (x.counters.ungoverned + 1) }
    (fr.kind ≠ 0x22 → leaves fr x.counters s.gov.furnaces)
      ∧ (∀ f : Furnace, fr.kind = 0x22 → s.fedBy fr.dst out = some f →
        let recorded := fun (sent : Nat) => s.gov.furnaces.set f
          { s.powerOf f with
            lastSent := sent, refresh := some { start := s.clock, length := 2 }
            holding := match (s.powerOf f).holding with
              | some h => if h.value = sent then none else some { value := h.value, urgent := decide (h.value < sent) }
              | none => none }
        let sent := min carried (s.powerOf f).inForce
        (s.store.mode ≠ .unconfigured → leaves (rewritten sent)
            { x.counters with
              clamped := if sent < carried then min 65535 (x.counters.clamped + 1) else x.counters.clamped }
            (recorded sent))
          ∧ (s.store.mode = .unconfigured → leaves (rewritten 0) ungoverned (recorded 0)))
      ∧ (fr.kind = 0x22 → s.fedBy fr.dst out = none → leaves (rewritten 0) ungoverned s.gov.furnaces)

/-- Every POWER_SET that leaves FIELD carries a setpoint no greater than the allocation in force of the furnace it names, and 0
in UNCONFIGURED or when it names no configured furnace (R95), whatever its source and whatever it carried. -/
def Obligations.PowerSetLeavesWithinAllocation : Prop :=
  ∀ (s t : State) (tx : Transmission), exec (.egressTransmissionStart .field) s = .next t → s.link.field.tx = none →
    t.link.field.tx = some tx → tx.frame.kind = 0x22 →
    (halfAt tx.frame.payload 2).toNat ≤
      match s.fedBy tx.frame.dst (byteAt tx.frame.payload 0) with
      | some f => if s.store.mode = .unconfigured then 0 else (s.powerOf f).inForce
      | none => 0

/-- A lowering and the transmission start of a POWER_SET for the furnace that waits first, one right after the other (R97). Lowering
first: the frame leaves clamped to the lowered allocation, which is recorded as last sent, and the holding is withdrawn, or is NORMAL
where the frame carries less. Transmission first: the frame leaves clamped to the allocation before the lowering, which is recorded;
a lowering below it makes an URGENT holding, which leaves at the end of that frame before any other, a second POWER_SET that waits
included. That the frame first in the queue is the one a lowering arrives together with is the model's reading (log 14). -/
def Obligations.LoweringMeetsAPowerSetStart : Prop :=
  ∀ (s : State) (f : Furnace) (fr : Frame) (rest : List Frame), s.resetLow = false → s.link.field.up = true →
    s.link.field.heldOff = false → s.link.field.tx = none → s.link.toField = fr :: rest → PowerSetFor s f fr →
    s.store.mode ≠ .unconfigured → s.configured f = true → capOf s f < (s.powerOf f).inForce →
    (∀ t ∈ s.tap.tiltHolding, t.urgent = false) → (∀ g : Furnace, g ≠ f → ∀ k ∈ (s.powerOf g).holding, k.urgent = false) →
    let p := s.powerOf f
    let turn := s.link.field.lastServed = .originated
      ∨ (s.tap.tiltHolding = none ∧ ∀ g : Furnace, g ≠ f → (s.powerOf g).holding = none)
    let carried := (halfAt fr.payload 2).toNat
    let cap := capOf s f
    let clampedTo := fun (limit : Nat) => some
      { source := TxSource.forwarded
        frame := { fr with payload := [byteAt fr.payload 0, if limit < carried then 1 else 0] ++ enc16 (min carried limit) } }
    let holdingOf := fun (sent : Nat) =>
      if cap = sent then none else some { value := cap, urgent := decide (cap < sent) : SetpointHolding }
    (cap < p.lastSent ∨ turn →
        ∃ t : State, exec (.egressTransmissionStart .field) (lowerToCap s f) = .next t ∧ t.link.field.tx = clampedTo cap
          ∧ t.powerOf f =
            { p with
              inForce := cap, lastSent := min carried cap, refresh := some { start := s.clock, length := 2 }
              holding := if cap = p.lastSent then none else holdingOf (min carried cap) })
      ∧ (turn → (∀ h ∈ p.holding, h.urgent = false) → s.link.field.lastServed = .originated ∨ p.holding = none →
        let sent := min carried p.inForce
        ∃ t : State, exec (.egressTransmissionStart .field) s = .next t ∧ t.link.field.tx = clampedTo p.inForce
          ∧ (lowerToCap t f).powerOf f =
            { p with
              inForce := cap, lastSent := sent, refresh := some { start := s.clock, length := 2 }, holding := holdingOf sent }
          ∧ (cap < sent → ∃ u v : State, exec (.transmissionEnd .field) (lowerToCap t f) = .next u
            ∧ exec (.egressTransmissionStart .field) u = .next v ∧ v.link.field.tx.map (·.source) = some (.setpoint f)
            ∧ (v.powerOf f).holding = none))

/-! ### Warm reset -/

/-- The warm reset is the same at the end of its reply, at PLANT becoming DOWN and at WARM_RESET_TAKEN; without either event
WARM_RESET_TAKEN changes nothing (R168; log 17). What it keeps and clears, block by block (R18, R42, R61, R78, R99, R113, R131,
R149, R161, R169); the ports return to their reset values, nothing being received or sent (log 24), after a GO where hold sent was
set, sent behind the control symbols that waited (R151; log 33). -/
def Obligations.WarmResetKeepsAndClears : Prop :=
  ∀ s : State, s.resetLow = false →
    (s.resp.warmPending = true → warmReplyUnderWay s = true →
        exec (.transmissionEnd .plant) s = exec .warmResetTaken s)
      ∧ (s.resp.warmPending = true → s.link.plant.liveness = true →
        exec (.livenessTimerExpiry .plant) s =
          exec .warmResetTaken { s with link := { s.link with plant := { s.link.plant with up := false } } })
      ∧ (s.resp.warmPending = false ∨ (warmReplyUnderWay s = false ∧ s.link.plant.up = true) →
        exec .warmResetTaken s = .next s)
      ∧ (s.resp.warmPending = true → (warmReplyUnderWay s = true ∨ s.link.plant.up = false) →
    ∃ t : State, exec .warmResetTaken s = .next t
      ∧ t.cool = s.cool ∧ t.trip = s.trip ∧ t.clock = s.clock
      ∧ t.store.mode = s.store.mode
      ∧ (∀ id ∈ allTables, t.store.swapPendingOf id = false ∧ t.store.swapCountOf id = s.store.swapCountOf id
          ∧ t.store.activeBankOf id = s.store.activeBankOf id
          ∧ ∀ (shadow : Bool) (k n : Nat), t.store.readBank id shadow k n = s.store.readBank id shadow k n)
      ∧ (∀ f : Furnace, t.store.moving[f] = false ∧ t.dipWindow f = none
          ∧ t.heatOf f = (s.heatOf f).map fun h =>
              if grantedTo s f ∨ h.stage = .holding then { heldFromNow s h with directed := none }
              else { h with holdMode := .floor, directed := none })
      ∧ t.heat.closedLog = s.heat.closedLog ∧ t.heat.nextHeatId = s.heat.nextHeatId
      ∧ t.heat.integrationTimers = s.heat.integrationTimers ∧ t.heat.dipInvalid = 0 ∧ t.heat.dipUnmatched = 0
      ∧ t.gov.window = s.gov.window ∧ t.gov.history = s.gov.history ∧ t.gov.allowance = s.gov.allowance
      ∧ t.gov.allocationTimer = s.gov.allocationTimer
      ∧ t.gov.plantSilence = some { start := s.clock, length := s.shopEntry.plantSilence.toNat }
      ∧ (∀ f : Furnace, t.powerOf f =
          { s.powerOf f with
            request := none
            holding :=
              if s.configured f then
                some { value := (s.powerOf f).inForce, urgent := decide ((s.powerOf f).inForce < (s.powerOf f).lastSent) }
              else (s.powerOf f).holding
            refresh := if s.configured f then some { start := s.clock, length := 2 } else (s.powerOf f).refresh })
      ∧ t.tap.queue = [] ∧ t.tap.pourInvalid = 0 ∧ t.tap.readiness = s.tap.readiness
      ∧ t.tap.readinessTimer = s.tap.readinessTimer ∧ t.tap.silenceTimer = s.tap.silenceTimer
      ∧ (s.tap.station.state ≠ .granted → t.tap.station = s.tap.station ∧ t.tap.tiltHolding = s.tap.tiltHolding)
      ∧ (∀ g : Grant, s.tap.station.state = .granted → s.tap.station.grant = some g →
          t.tap.station = releasedStation s g .tapReset
            ∧ t.tap.tiltHolding = some { on := false, urgent := true, furnace := g.furnace, heatId := g.heatId })
      ∧ (t.link.toField = [] ∧ t.link.toPlant = []
        ∧ ∀ p : Port, t.port p =
            { State.reset.port p with
              controlSent := if (s.port p).holdSent then some .go else (gapPort (s.port p)).controlSent })
      ∧ t.resp =
          { replies := [], statusHolding := none, warmPending := false, replyOverflow := 0
            statusTimer := { start := s.clock, length := s.shopEntry.statusPeriod.toNat } })

/-! ### Frames -/

/-- The bytes of a frame parse back to it, and only the bytes of a frame of the layout pass the ingress checks (R154, R155). -/
def Obligations.FrameLayoutRoundTrips : Prop :=
  (∀ fr : Frame, fr.payload.length ≤ 120 → Frame.parse fr.bytes = .ok fr)
    ∧ ∀ (bytes : List Byte) (fr : Frame), Frame.parse bytes = .ok fr → bytes = fr.bytes ∧ fr.payload.length ≤ 120

/-- Each frame command is FRAME_RECEIVE of the frame's bytes, its kind byte being the table's (R154, R156, R159). Each management
request is the arrival on PLANT of its MGMT_REQUEST frame to the part, laid out by R159 and R162: every code, every argument at
every value, in the order of its rule (log 29). -/
def Obligations.CommandsAreTheirFrames : Prop :=
  (∀ (s : State) (p : Port) (dst src : Byte) (pl : List Byte),
    let arrives := fun (kind : Byte) (payload : List Byte) =>
      exec (.frameReceive p (Frame.bytes { dst := dst, src := src, kind := kind, payload := payload })) s
    (pl.length ≤ 120 →
        exec (.sample p dst src pl) s = arrives 0x11 pl ∧ exec (.powerSet p dst src pl) s = arrives 0x22 pl
          ∧ exec (.powerReport p dst src pl) s = arrives 0x23 pl ∧ exec (.pourReport p dst src pl) s = arrives 0x45 pl
          ∧ exec (.windowSync p dst src pl) s = arrives 0x57 pl ∧ exec (.mgmtRequest p dst src pl) s = arrives 0x68 pl)
      ∧ (pl.length ≤ 119 →
        exec (.dipEventStart p dst src pl) s = arrives 0x34 (0 :: pl)
          ∧ exec (.dipEventResult p dst src pl) s = arrives 0x34 (1 :: pl)
          ∧ exec (.dipEventAbort p dst src pl) s = arrives 0x34 (2 :: pl)))
    ∧ ∀ (s : State) (src tag a b c d : Byte) (m n : Half) (id : Word32) (entries : List Byte),
    let sent := fun (payload : List Byte) => exec (.mgmtRequest .plant s.shopEntry.partAddress src payload) s
    exec (.tableWrite src tag a b c entries) s = sent ([0x01, tag, a, b, c] ++ entries)
      ∧ exec (.tableSwap src tag a) s = sent [0x02, tag, a]
      ∧ exec (.tableRead src tag a b c d) s = sent [0x03, tag, a, b, c, d]
      ∧ exec (.heatOpen src tag a m b) s = sent ([0x10, tag, a] ++ le16 m ++ [b])
      ∧ exec (.chargeAdd src tag a id m) s = sent ([0x11, tag, a] ++ le32 id ++ le16 m)
      ∧ exec (.heatClose src tag a id b) s = sent ([0x12, tag, a] ++ le32 id ++ [b])
      ∧ exec (.readHeat src tag a b) s = sent [0x13, tag, a, b]
      ∧ exec (.readClosed src tag a b) s = sent [0x14, tag, a, b]
      ∧ exec (.dipEnter src tag a id m) s = sent ([0x15, tag, a] ++ le32 id ++ le16 m)
      ∧ exec (.holdSet src tag a id m n) s = sent ([0x16, tag, a] ++ le32 id ++ le16 m ++ le16 n)
      ∧ exec (.holdRelease src tag a id) s = sent ([0x17, tag, a] ++ le32 id)
      ∧ exec (.readDemand src tag a) s = sent [0x20, tag, a]
      ∧ exec (.readCircuit src tag a) s = sent [0x30, tag, a]
      ∧ exec (.readTrip src tag a) s = sent [0x40, tag, a]
      ∧ exec (.clearTrip src tag a) s = sent [0x41, tag, a]
      ∧ exec (.restorePower src tag a) s = sent [0x42, tag, a]
      ∧ exec (.restoreShop src tag) s = sent [0x43, tag]
      ∧ exec (.chemAccept src tag a id) s = sent ([0x50, tag, a] ++ le32 id)
      ∧ exec (.chemRevoke src tag a id) s = sent ([0x51, tag, a] ++ le32 id)
      ∧ exec (.tapRequest src tag a id) s = sent ([0x52, tag, a] ++ le32 id)
      ∧ exec (.tapCancel src tag a id) s = sent ([0x53, tag, a] ++ le32 id)
      ∧ exec (.readTap src tag a) s = sent [0x54, tag, a]
      ∧ exec (.readPorts src tag a) s = sent [0x60, tag, a]
      ∧ exec (.warmReset src tag) s = sent [0x70, tag]

/-- Disposal of what no block reads: a frame bad in delimiter or length, or in its check, is counted and dropped (R155); a good
frame to the part that is no MGMT_REQUEST from PLANT is a foreign drop, a POWER_SET of another length than 4 a length drop (R156,
R96); any other good frame of a kind not read, a MGMT_REQUEST among them, crosses unchanged to the tail of the queue toward the
other port, or is counted where that queue is full or its port DOWN (R153, R157). A frame is heard as symbols are, and brings a DOWN port
UP (log 2). -/
def Obligations.FramesNotReadAreDroppedOrCross : Prop :=
  ∀ (s : State) (p : Port), s.resetLow = false →
    let dropped := fun (st : State) (g : Counters → Counters) =>
      st.setPort p { st.port p with counters := g (st.port p).counters }
    let heardOnly := s.setPort p (arrivedPort (s.port p))
    (∀ bytes : List Byte,
        let l := (byteAt bytes 4).toNat
        (byteAt bytes 0 ≠ 0x7E ∨ 120 < l ∨ bytes.length ≠ 7 + l →
            exec (.frameReceive p bytes) s =
              .next (dropped heardOnly fun c => { c with lengthDrops := min 65535 (c.lengthDrops + 1) }))
          ∧ (byteAt bytes 0 = 0x7E → l ≤ 120 → bytes.length = 7 + l →
            bytes.drop (5 + l) ≠ le16 (crc16 ((bytes.drop 1).take (4 + l))) →
            exec (.frameReceive p bytes) s =
              .next (dropped heardOnly fun c => { c with crcDrops := min 65535 (c.crcDrops + 1) })))
      ∧ ∀ fr : Frame, fr.payload.length ≤ 120 →
        (fr.dst = s.shopEntry.partAddress → p = .field ∨ fr.kind ≠ 0x68 →
            exec (.frameReceive p fr.bytes) s =
              .next (dropped (heardOn p s) fun c => { c with foreignDrops := min 65535 (c.foreignDrops + 1) }))
          ∧ (fr.dst ≠ s.shopEntry.partAddress → fr.kind = 0x22 → fr.payload.length ≠ 4 →
            exec (.frameReceive p fr.bytes) s =
              .next (dropped (heardOn p s) fun c => { c with lengthDrops := min 65535 (c.lengthDrops + 1) }))
          ∧ (fr.dst ≠ s.shopEntry.partAddress →
            (NotRead fr.kind → exec (.frameReceive p fr.bytes) s = .next (offered p fr (heardOn p s)))
              ∧ (fr.kind = 0x68 → exec (.mgmtRequest p fr.dst fr.src fr.payload) s = .next (offered p fr (heardOn p s))))

/-- A POWER_SET from PLANT for a configured furnace is recorded as its pulpit request, whether or not the queue has room, and
crosses (R80); a POWER_REPORT from FIELD is recorded as its power report and crosses (R83). From the other port, or with no
configured furnace, they only cross. -/
def Obligations.RequestsAndReportsAreRecorded : Prop :=
  ∀ (s : State) (dst src out fl lo hi : Byte), s.resetLow = false → dst ≠ s.shopEntry.partAddress →
    let set : Frame := { dst := dst, src := src, kind := 0x22, payload := [out, fl, lo, hi] }
    let report : Frame := { dst := dst, src := src, kind := 0x23, payload := [out, lo, hi] }
    let reading : PowerReading := { power := (hi ++ lo : Half).toNat, second := s.clock }
    (∀ f : Furnace, s.fedBy dst out = some f →
        exec (.powerSet .plant dst src set.payload) s =
          .next (offered .plant set ((plantHeard s).setPower f { s.powerOf f with request := some reading })))
      ∧ (s.fedBy dst out = none → exec (.powerSet .plant dst src set.payload) s = .next (offered .plant set (plantHeard s)))
      ∧ exec (.powerSet .field dst src set.payload) s = .next (offered .field set (fieldHeard s))
      ∧ (∀ f : Furnace, s.fedBy src out = some f →
        exec (.powerReport .field dst src report.payload) s =
          .next (offered .field report ((fieldHeard s).setPower f { s.powerOf f with report := some reading })))
      ∧ (s.fedBy src out = none →
        exec (.powerReport .field dst src report.payload) s = .next (offered .field report (fieldHeard s)))
      ∧ exec (.powerReport .plant dst src report.payload) s = .next (offered .plant report (plantHeard s))
      ∧ ∀ payload : List Byte, payload.length ≤ 120 → payload.length ≠ 3 →
        exec (.powerReport .field dst src payload) s =
          .next (offered .field { dst := dst, src := src, kind := 0x23, payload := payload } (fieldHeard s))

/-- A lance START (R50): the window opens or restarts with the dip timeout, the hold mode goes to FLOOR, the allocation in force
falls to the dip cap if above, at the event, and its holding gives way to a POWER_SET that is due (R97; log 14); no dip is recorded. -/
def Obligations.DipStartOpensTheWindow : Prop :=
  ∀ (s : State) (dst src : Byte) (f : Furnace), s.resetLow = false → dst ≠ s.shopEntry.partAddress → s.configured f = true →
    ∃ t : State, exec (.dipEventStart .field dst src [numberByte f]) s = .next t
      ∧ (∀ g : Furnace, t.dipWindow g =
          if g = f then some { start := s.clock, length := (s.furnaceEntry f).dipTimeout.toNat } else s.dipWindow g)
      ∧ (∀ g : Furnace, t.heatOf g =
          if g = f then (s.heatOf f).map fun h => { h with holdMode := .floor, directed := none } else s.heatOf g)
      ∧ (t.powerOf f).inForce =
          (if min (capOf s f) (s.furnaceEntry f).dipCap.toNat < (s.powerOf f).inForce then
            min (capOf s f) (s.furnaceEntry f).dipCap.toNat else (s.powerOf f).inForce)
      ∧ (t.powerOf f).issued = (s.powerOf f).issued ∧ (t.powerOf f).lastSent = (s.powerOf f).lastSent
      ∧ ((t.powerOf f).inForce ≠ (s.powerOf f).inForce →
          (t.powerOf f).holding =
            if (t.powerOf f).inForce = (s.powerOf f).lastSent then none
            else some
              { value := (t.powerOf f).inForce, urgent := decide ((t.powerOf f).inForce < (s.powerOf f).lastSent)
                yields := decide (PowerSetDue s f) })
      ∧ (∀ g : Furnace, g ≠ f → t.powerOf g = s.powerOf g)
      ∧ t.link = (offered .field { dst := dst, src := src, kind := 0x34, payload := [0, numberByte f] } (fieldHeard s)).link
      ∧ t.gov.window = s.gov.window ∧ t.heat.closedLog = s.heat.closedLog ∧ t.heat.dipInvalid = s.heat.dipInvalid
      ∧ t.store = s.store ∧ t.trip = s.trip ∧ t.tap = s.tap ∧ t.cool = s.cool ∧ t.resp = s.resp

/-- A lance RESULT closes the window and records the clamped dip for an open heat, or counts DIP_UNMATCHED; an ABORT and the dip
timer's expiry only close the window (R51, R52); a DIP_EVENT of a wrong length, of another event, or naming no configured furnace,
only counts DIP_INVALID (R49). Each frame crosses. On PLANT every DIP_EVENT, of any payload, crosses and is not read (R49). -/
def Obligations.DipEndsAndResultsAreRecorded : Prop :=
  ∀ (s : State) (dst src : Byte), s.resetLow = false → dst ≠ s.shopEntry.partAddress →
    let crosses := fun (payload : List Byte) (st : State) =>
      Host.Outcome.next (φ := Fault) (ρ := Refusal) (offered .field { dst := dst, src := src, kind := 0x34, payload := payload } st)
    let forwarded := fun (payload : List Byte) =>
      Host.Outcome.next (φ := Fault) (ρ := Refusal)
        (offered .plant { dst := dst, src := src, kind := 0x34, payload := payload } (plantHeard s))
    let closed := fun (f : Furnace) => (fieldHeard s).setDipWindow f none
    let invalid := { fieldHeard s with heat := { s.heat with dipInvalid := min 65535 (s.heat.dipInvalid + 1) } }
    (∀ (f : Furnace) (lo hi : Byte), s.configured f = true →
        let v : Int := max 0 (min 18000 (hi ++ lo : Half).toInt)
        (∀ h : Heat, s.heatOf f = some h →
            exec (.dipEventResult .field dst src [numberByte f, lo, hi]) s =
              crosses [1, numberByte f, lo, hi] ((closed f).setHeat f (some (dippedHeat s v .lance h))))
          ∧ (s.heatOf f = none →
            exec (.dipEventResult .field dst src [numberByte f, lo, hi]) s =
              crosses [1, numberByte f, lo, hi]
                { closed f with heat := { (closed f).heat with dipUnmatched := min 65535 (s.heat.dipUnmatched + 1) } }))
      ∧ (∀ f : Furnace, s.configured f = true →
        exec (.dipEventAbort .field dst src [numberByte f]) s = crosses [2, numberByte f] (closed f))
      ∧ (∀ f : Furnace, exec (.dipTimerExpiry f) s = .next (s.setDipWindow f none))
      ∧ (∀ rest : List Byte, rest.length ≤ 119 → rest.length ≠ 1 →
        exec (.dipEventStart .field dst src rest) s = crosses (0 :: rest) invalid
          ∧ exec (.dipEventAbort .field dst src rest) s = crosses (2 :: rest) invalid)
      ∧ (∀ rest : List Byte, rest.length ≤ 119 → rest.length ≠ 3 →
        exec (.dipEventResult .field dst src rest) s = crosses (1 :: rest) invalid)
      ∧ (∀ b lo hi : Byte, (∀ f : Furnace, b = numberByte f → s.configured f = false) →
        exec (.dipEventStart .field dst src [b]) s = crosses [0, b] invalid
          ∧ exec (.dipEventResult .field dst src [b, lo, hi]) s = crosses [1, b, lo, hi] invalid
          ∧ exec (.dipEventAbort .field dst src [b]) s = crosses [2, b] invalid)
      ∧ (∀ payload : List Byte, payload.length ≤ 120 → (∀ e ∈ payload.head?, 2 < e.toNat) →
        exec (.frameReceive .field (Frame.bytes { dst := dst, src := src, kind := 0x34, payload := payload })) s =
          crosses payload invalid)
      ∧ (∀ payload : List Byte, payload.length ≤ 120 →
        exec (.frameReceive .plant (Frame.bytes { dst := dst, src := src, kind := 0x34, payload := payload })) s =
          forwarded payload)
      ∧ ∀ rest : List Byte, rest.length ≤ 119 →
        exec (.dipEventStart .plant dst src rest) s = forwarded (0 :: rest)
          ∧ exec (.dipEventResult .plant dst src rest) s = forwarded (1 :: rest)
          ∧ exec (.dipEventAbort .plant dst src rest) s = forwarded (2 :: rest)

/-- A WINDOW_SYNC from PLANT, of any payload (R68): in SYNC it closes the window with closed-by SYNC (R69, R67); in SYNC_EVERY_N it
counts, and closes at the N-th (R70); in FREE it raises the ignored-sync count alone (R71). From FIELD it only crosses. -/
def Obligations.WindowSyncActsByMode : Prop :=
  ∀ (s : State) (dst src : Byte) (pl : List Byte), s.resetLow = false → dst ≠ s.shopEntry.partAddress → pl.length ≤ 120 →
    let fr : Frame := { dst := dst, src := src, kind := 0x57, payload := pl }
    let w := s.gov.window
    let taken := fun (w' : WindowRecord) (history : List HistoryEntry) =>
      let t := plantHeard s
      Host.Outcome.next (φ := Fault) (ρ := Refusal)
        (offered .plant fr { t with gov := { t.gov with window := w', history := history } })
    let opened := { w with
      number := w.number + 1, elapsed := 0, used := 0, overrun := 0, peak := 0, syncCount := 0, demandOverrun := false }
    let entry : HistoryEntry :=
      { number := w.number, used := w.used, overrun := w.overrun, peak := w.peak, closedBy := .sync }
    (s.shopEntry.windowMode = 1 →
        exec (.windowSync .plant dst src pl) s = taken opened ((entry :: s.gov.history).take 4))
      ∧ (s.shopEntry.windowMode = 2 →
        exec (.windowSync .plant dst src pl) s =
          if w.syncCount + 1 = s.shopEntry.syncsPerWindow.toNat then taken opened ((entry :: s.gov.history).take 4)
          else taken { w with syncCount := w.syncCount + 1 } s.gov.history)
      ∧ (s.shopEntry.windowMode = 0 →
        exec (.windowSync .plant dst src pl) s =
          taken { w with ignoredSyncs := min 65535 (w.ignoredSyncs + 1) } s.gov.history)
      ∧ exec (.windowSync .field dst src pl) s = .next (offered .field fr (fieldHeard s))

/-- A POUR_REPORT from the pour station node (R143, R144): it becomes the last report and restarts station silence; a tilt above
the rest angle starts the pour of a grant; a tilt back at rest completes a pour, whose mass is the weight less the tare within
0 to the bath mass. The heat returns to HOLDING at or above the heel minimum and is closed EMPTIED below it (R33, R37); the station
is released POURED and arbitrates among the queued furnaces (R140). Other lengths count POUR_INVALID. A POUR_REPORT from another
node, or on PLANT, crosses and is not read, whatever its payload (R143). -/
def Obligations.PourReportStartsAndCompletesPours : Prop :=
  ∀ (s : State) (dst src : Byte) (tl th wl wh : Byte), s.resetLow = false → dst ≠ s.shopEntry.partAddress →
    let pl := [tl, th, wl, wh]
    let fr : Frame := { dst := dst, src := src, kind := 0x45, payload := pl }
    let tilt := (th ++ tl : Half).toNat
    let weight := (wh ++ wl : Half).toNat
    let st := s.tap.station
    let reported : Station :=
      { st with lastReport := some { tilt := tilt, weight := weight, second := s.clock }, quiet := false, silent := false }
    let read := fun (x : Station) =>
      let t := fieldHeard s
      { t with tap := { t.tap with
          station := x, silenceTimer := some { start := s.clock, length := s.shopEntry.pourSilence.toNat } } }
    let rest := s.shopEntry.restAngle.toNat
    (src = s.shopEntry.pourNode →
        (st.state = .free ∨ (st.state = .granted ∧ tilt ≤ rest) ∨ (st.state = .pouring ∧ rest < tilt) →
            exec (.pourReport .field dst src pl) s = .next (offered .field fr (read reported)))
          ∧ (st.state = .granted → rest < tilt →
            exec (.pourReport .field dst src pl) s = .next (offered .field fr (read { reported with state := .pouring })))
          ∧ (∀ (g : Grant) (h : Heat), st.state = .pouring → st.grant = some g → tilt ≤ rest → s.heatOf g.furnace = some h →
            let mass := min (weight - st.tare) h.bathMass
            let poured : Heat :=
              { h with
                pouredTotal := h.pouredTotal + mass, bathMass := h.bathMass - mass, pours := min 255 (h.pours + 1)
                residual := 0, overfill := decide ((s.furnaceEntry g.furnace).capacity.toNat < h.bathMass - mass) }
            let released := fun (x : State) =>
              { x with tap := { x.tap with
                  station := releasedStation x g .poured
                  tiltHolding := some { on := false, urgent := false, furnace := g.furnace, heatId := g.heatId } } }
            let m := read reported
            ((s.furnaceEntry g.furnace).heelMinimum.toNat ≤ h.bathMass - mass →
                exec (.pourReport .field dst src pl) s = .next (offered .field fr
                  (arbitrated (released (m.setHeat g.furnace (some (heldFromNow s poured)))))))
              ∧ (h.bathMass - mass < (s.furnaceEntry g.furnace).heelMinimum.toNat →
                exec (.pourReport .field dst src pl) s = .next (offered .field fr
                  (arbitrated (released (closedOut m g.furnace poured .emptied))))))
          ∧ ∀ other : List Byte, other.length ≤ 120 → other.length ≠ 4 →
            exec (.pourReport .field dst src other) s =
              .next (offered .field { fr with payload := other }
                { fieldHeard s with tap := { s.tap with pourInvalid := min 65535 (s.tap.pourInvalid + 1) } }))
      ∧ ∀ any : List Byte, any.length ≤ 120 →
        (src ≠ s.shopEntry.pourNode →
            exec (.pourReport .field dst src any) s = .next (offered .field { fr with payload := any } (fieldHeard s)))
          ∧ exec (.pourReport .plant dst src any) s = .next (offered .plant { fr with payload := any } (plantHeard s))

/-- A SAMPLE from FIELD (R101 to R106) while no row watches what it touches: its readings are taken in turn, each applied to the
circuit and quantity its channel maps (held value past the deadband, age 0, DELTA_T, span), counted BAD when implausible, or
UNMAPPED without a mapping or for a circuit not in service; nothing else changes, and the frame crosses. A reading is scaled by the
floor of raw × gain / 1,024 plus the offset, in 16 bits (R103). A payload of another length counts SAMPLE_INVALID. -/
def Obligations.SampleAppliesItsReadings : Prop :=
  (∀ (e : ChannelEntry) (raw q : Int), 1024 * q ≤ raw * e.gain.toInt → raw * e.gain.toInt < 1024 * (q + 1) →
    scaleReading e raw = max (-32768) (min 32767 (q + e.offset.toInt)))
    ∧ ∀ (s : State) (dst src : Byte), s.resetLow = false → dst ≠ s.shopEntry.partAddress →
    let frame := fun (pl : List Byte) => ({ dst := dst, src := src, kind := 0x11, payload := pl } : Frame)
    (∀ pl : List Byte, pl.length % 4 = 0 → pl.length ≤ 116 →
        (∀ (k : TripRow) (c : Circuit), (rowInForce s k).present ≠ 0 → inScope s (rowInForce s k) c = true →
          ¬ Touches s src pl c (rowInForce s k).watches) →
        exec (.sample .field dst src pl) s = .next (offered .field (frame pl) (readingsTaken src pl (fieldHeard s))))
      ∧ (∀ other : List Byte, other.length ≤ 120 → (other.length % 4 ≠ 0 ∨ 116 < other.length) →
        exec (.sample .field dst src other) s =
          .next (offered .field (frame other)
            { fieldHeard s with cool := { s.cool with sampleInvalid := min 65535 (s.cool.sampleInvalid + 1) } }))
      ∧ ∀ other : List Byte, other.length ≤ 120 →
        exec (.sample .plant dst src other) s = .next (offered .plant (frame other) (plantHeard s))

/-! ### Management requests -/

/-- The responder (R162, R163, R168): a code not in the table, or a wrong argument length, is answered BAD_REQUEST; missing code
and tag bytes are 0; a full reply queue leaves a request unanswered and counted, mark or no mark; WARM_RESET is answered with the
shop second and sets the mark, and while the mark stands every request that finds room in the queue is dropped. -/
def Obligations.RequestsAreTakenOneByOne : Prop :=
  ∀ (s : State) (src c tag : Byte) (args : List Byte), s.resetLow = false → args.length ≤ 118 →
    let sent := fun (payload : List Byte) => exec (.mgmtRequest .plant s.shopEntry.partAddress src payload) s
    (Serving s →
        (∀ n : Nat, (c, n) ∈ requestLengths → args.length ≠ n → sent (c :: tag :: args) = .next (refusedWith s c tag src .badRequest))
          ∧ (c ≠ 0x01 → c ∉ requestLengths.map (·.1) → sent (c :: tag :: args) = .next (refusedWith s c tag src .badRequest))
          ∧ (args.length < 3 → sent (0x01 :: tag :: args) = .next (refusedWith s 0x01 tag src .badRequest))
          ∧ sent [] = .next (refusedWith s 0 0 src .badRequest) ∧ sent [c] = sent [c, 0]
          ∧ exec (.warmReset src tag) s =
            .next (answeredOk s (fun x => { x with resp := { x.resp with warmPending := true } }) 0x70 tag src (le32 s.clock)))
      ∧ (4 ≤ s.resp.replies.length → sent (c :: tag :: args) =
          .next { plantHeard s with resp := { s.resp with replyOverflow := min 65535 (s.resp.replyOverflow + 1) } })
      ∧ (s.resp.warmPending = true → s.resp.replies.length < 4 → sent (c :: tag :: args) = .next (plantHeard s))

/-- The checks of R21, in their order, for the five requests of R21: the first refusal that applies is the whole answer, and no
state but the reply changes. The four requests of the tap arbiter that take the same order (R134, R135, R137, R138) are refused in
ChemistryIsAcceptedAndRevoked, TapRequestQueuesOrIsGranted and TapCancelWithdrawsTheRequest. -/
def Obligations.HeatRequestsFollowTheChecksOfR21 : Prop :=
  ∀ (s : State) (src tag a b : Byte) (m n : Half) (id : Word32) (st : Status), Serving s →
    let refused := fun (code : Byte) => Host.Outcome.next (φ := Fault) (ρ := Refusal) (refusedWith s code tag src st)
    (namedHeat s a id (decide (1 ≤ m.toNat ∧ m.toNat ≤ 60000)) = .error st → exec (.chargeAdd src tag a id m) s = refused 0x11)
      ∧ (namedHeat s a id (decide (b = 1 ∨ b = 2)) = .error st → exec (.heatClose src tag a id b) s = refused 0x12)
      ∧ (namedHeat s a id (decide (m.toNat ≤ 18000)) = .error st → exec (.dipEnter src tag a id m) s = refused 0x15)
      ∧ (namedHeat s a id true = .error st →
        exec (.holdSet src tag a id m n) s = refused 0x16 ∧ exec (.holdRelease src tag a id) s = refused 0x17)

/-- TABLE_WRITE with a count of 1 or more (R10): its four refusals in their order, and otherwise the carried bytes stand in the
shadow bank at the numbered positions, byte for byte; other entries, the active bank, other tables, marks and counts stay. -/
def Obligations.TableWriteStoresTheEntries : Prop :=
  ∀ (s : State) (src tag t first count : Byte) (entries : List Byte), Serving s → 1 ≤ count.toNat → entries.length ≤ 115 →
    let refused := fun (st : Status) => exec (.tableWrite src tag t first count entries) s = .next (refusedWith s 0x01 tag src st)
    (t.toNat < 1 ∨ 7 < t.toNat → refused .badArg)
      ∧ ∀ id : TableId, TableId.ofByte t = some id →
        let start := first.toNat - id.firstNumber
        let inside := id.firstNumber ≤ first.toNat ∧ first.toNat + count.toNat ≤ id.firstNumber + id.entries
        (¬ inside → refused .badArg)
          ∧ (inside → entries.length ≠ count.toNat * id.entrySize → refused .badRequest)
          ∧ (inside → entries.length = count.toNat * id.entrySize → s.store.swapPendingOf id = true → refused .swapPending)
          ∧ (inside → entries.length = count.toNat * id.entrySize → s.store.swapPendingOf id = false →
            ∃ st : TableStore,
              exec (.tableWrite src tag t first count entries) s =
                  .next (answeredOk s (fun x => { x with store := st }) 0x01 tag src)
                ∧ st.readBank id true start count.toNat = entries
                ∧ (id ≠ .shop → ∀ k n : Nat, k + n ≤ start ∨ start + count.toNat ≤ k →
                    st.readBank id true k n = s.store.readBank id true k n)
                ∧ (∀ k n : Nat, st.readBank id false k n = s.store.readBank id false k n)
                ∧ (∀ other : TableId, other ≠ id → ∀ (shadow : Bool) (k n : Nat),
                    st.readBank other shadow k n = s.store.readBank other shadow k n)
                ∧ (∀ other : TableId, st.swapPendingOf other = s.store.swapPendingOf other
                    ∧ st.swapCountOf other = s.store.swapCountOf other ∧ st.activeBankOf other = s.store.activeBankOf other)
                ∧ st.mode = s.store.mode ∧ st.moving = s.store.moving)

/-- A TABLE_SWAP that R11 refuses is refused whole: only the arrival and the reply, with the entry and field the check names, are
seen. Step 3 finds no fault exactly in a shadow bank whose present entries lie within R3 to R9 and fit the other banks (R4, R5, R7,
R8), and names the first entry at fault (log 12 for the field). An open heat's furnace may not be moved (R14), the lowest entry and
field that would move it being named (the model's choice, log 31), nor P0 removed under an open heat (R9). -/
def Obligations.RefusedSwapChangesNothing : Prop :=
  ∀ (s : State) (src tag t : Byte), Serving s →
    let refused := fun (st : Status) (data : List Byte) => exec (.tableSwap src tag t) s = .next (refusedWith s 0x02 tag src st data)
    (t.toNat < 1 ∨ 7 < t.toNat → refused .badArg [])
      ∧ ∀ id : TableId, TableId.ofByte t = some id →
        (s.store.swapPendingOf id = true → refused .swapPending [])
          ∧ (s.store.swapPendingOf id = false →
            (∀ i : Nat, i < id.entries → ¬ EntryValid s.store id i → (∀ j : Nat, j < i → EntryValid s.store id j) →
                ∃ field : Nat, s.store.invalidEntry id = some (i + id.firstNumber, field)
                  ∧ refused .invalidEntry (enc8 (i + id.firstNumber) ++ enc8 field))
              ∧ (ShadowValid s.store id → s.store.invalidEntry id = none
                ∧ (id = .furnace → ∀ f : Furnace, FurnaceMoved s f → (∀ g : Furnace, g < f → ¬ FurnaceMoved s g) →
                  let a := s.store.furnace.active[f]
                  let b := s.store.furnace.shadow[f]
                  refused .badState [numberByte f, if b.present ≠ a.present then 1 else if b.unit ≠ a.unit then 2 else 3])
                ∧ (id = .unit → ∀ u : PowerUnit, UnitMoved s u → (∀ v : PowerUnit, v < u → ¬ UnitMoved s v) →
                  let a := s.store.unit.active[u]
                  let b := s.store.unit.shadow[u]
                  (b.present = 0 → refused .badState [numberByte u, 1])
                    ∧ (b.present ≠ 0 → FeedsAHeat s u 1 → b.output1 ≠ a.output1 → refused .badState [numberByte u, 4])
                    ∧ (b.present ≠ 0 → ¬ (FeedsAHeat s u 1 ∧ b.output1 ≠ a.output1) → refused .badState [numberByte u, 5]))
                ∧ (id = .programme → (∃ f : Furnace, s.heatOf f ≠ none) →
                  s.store.programme.shadow[(0 : Fin 8)].present = 0 → refused .badState [0, 1])))

/-- A TABLE_SWAP whose shadow bank is valid and which no open heat holds up is accepted (R11, R14, R15, R17): CUT and SHOP_STOP rows
that self-clear are rewritten to LATCH, with ADJUSTED; CLAMPED tells of an open heat whose programme will be absent. Configured, the
mark is set and the banks wait; in UNCONFIGURED they are exchanged at once, and the seventh first swap leaves UNCONFIGURED by the
latch. What such a swap does in the other blocks (R12), from a state that the invariants allow: the sync count (R76), the furnaces
that are or cease to be configured (R98), the circuits that enter or leave service (R111), the trip records (R130), latched cuts and
permits (R122, R123; log 8); all else stays. The request's own frame restarts the plant silence timer with the timeout of the bank
in force before the swap, a SHOP swap's too (the model's choice, log 15). The moving marks compare the outputs of present units
(isMoving; the model's choice, log 22). -/
def Obligations.AcceptedSwapWaitsOrTakesForce : Prop :=
  ∀ (s : State) (src tag t : Byte) (id : TableId), Serving s → TableId.ofByte t = some id → s.store.swapPendingOf id = false →
    ShadowValid s.store id → HeatsAllow s id →
    let rewritten := fun (e : TripEntry) => e.present ≠ 0 ∧ (e.acts = .cut ∨ e.acts = .shopStop) ∧ e.latching ≠ 0
    let adjusts := id = .trip ∧ ∃ r : TripRow, rewritten s.store.trip.shadow[r]
    let lapses := id = .programme ∧ ∃ f : Furnace, ∃ h : Heat, s.heatOf f = some h ∧ s.store.programme.shadow[h.programme].present = 0
    ∃ (u : State) (flags : Byte),
      exec (.tableSwap src tag t) s = .next (withReply u (replyOf s.shopEntry.partAddress 0x02 tag src .ok flags []))
        ∧ flags.getLsbD 0 = decide lapses ∧ flags.getLsbD 1 = decide adjusts ∧ (∀ k : Nat, 2 ≤ k → flags.getLsbD k = false)
        ∧ (∀ f : Furnace, u.store.moving[f] = isMoving u.store f)
        ∧ (∀ other : TableId, other ≠ id → u.store.swapPendingOf other = s.store.swapPendingOf other
            ∧ u.store.swapCountOf other = s.store.swapCountOf other ∧ u.store.activeBankOf other = s.store.activeBankOf other
            ∧ ∀ (shadow : Bool) (k n : Nat), u.store.readBank other shadow k n = s.store.readBank other shadow k n)
        ∧ (s.store.mode ≠ .unconfigured →
          u = { plantHeard s with store := u.store } ∧ u.store.mode = s.store.mode ∧ u.store.swapPendingOf id = true
            ∧ u.store.swapCountOf id = s.store.swapCountOf id ∧ u.store.activeBankOf id = s.store.activeBankOf id
            ∧ (∀ k n : Nat, u.store.readBank id false k n = s.store.readBank id false k n)
            ∧ (id ≠ .trip → ∀ k n : Nat, u.store.readBank id true k n = s.store.readBank id true k n)
            ∧ (id = .trip → ∀ r : TripRow, u.store.trip.shadow[r] =
                if rewritten s.store.trip.shadow[r] then { s.store.trip.shadow[r] with latching := 0 }
                else s.store.trip.shadow[r]))
        ∧ (s.store.mode = .unconfigured →
          u.store.swapPendingOf id = false ∧ u.store.swapCountOf id = min 65535 (s.store.swapCountOf id + 1)
            ∧ u.store.activeBankOf id = (s.store.activeBankOf id).other
            ∧ (∀ k n : Nat, u.store.readBank id true k n = s.store.readBank id false k n)
            ∧ (id ≠ .trip → ∀ k n : Nat, u.store.readBank id false k n = s.store.readBank id true k n)
            ∧ (id = .trip → ∀ r : TripRow, u.store.trip.active[r] =
                if rewritten s.store.trip.shadow[r] then { s.store.trip.shadow[r] with latching := 0 }
                else s.store.trip.shadow[r])
            ∧ u.store.mode =
                (if ∀ other ∈ allTables, 0 < u.store.swapCountOf other then
                  (if s.trip.stopLatch = true then .shopStop else .running)
                else .unconfigured)
            ∧ (ConfigSound s → PowerSound s → TapSound s →
              let e := s.shopEntry
              let covers := id = .circuit ∨ id = .unit ∨ id = .furnace
              let counted := if u.shopEntry.windowMode ≠ e.windowMode ∨ u.shopEntry.syncsPerWindow ≠ e.syncsPerWindow then 0
                else s.gov.window.syncCount
              let m := plantHeard s
              u = { m with
                store := u.store
                gov := { m.gov with
                  window := { s.gov.window with syncCount := counted }
                  furnaces := Vector.ofFn fun f => powerFollowing s (s.configured f) (u.configured f) (s.powerOf f) }
                cool := { s.cool with circuits := Vector.ofFn fun c =>
                  if id = .circuit then recordFollowing s u.store.circuit.active[c] s.cool.circuits[c] else s.cool.circuits[c] }
                trip := { s.trip with
                  records := Vector.ofFn fun k => if id = .trip then recordAfterSwap s.trip.records[k] else s.trip.records[k]
                  latchedCuts := Vector.ofFn fun f =>
                    s.trip.latchedCuts[f] || decide (covers ∧ NewlyCovered s s.store u.store f)
                  permits := Vector.ofFn fun f => if covers then permitFrom u (s.permitOf f) f else s.permitOf f } }))

/-- HEAT_OPEN (R22, R23, R20): its refusals in their order, and the whole record of the heat it opens otherwise; an index that is
none, or of an absent entry, is recorded as 0 with CLAMPED; the id counter passes from its largest value to 1. -/
def Obligations.HeatOpenCreatesTheRecord : Prop :=
  ∀ (s : State) (src tag a : Byte) (m : Half) (p : Byte), Serving s →
    let refused := fun (st : Status) (data : List Byte) => exec (.heatOpen src tag a m p) s = .next (refusedWith s 0x10 tag src st data)
    (s.store.mode = .unconfigured → refused .unconfigured [])
      ∧ (s.store.mode ≠ .unconfigured →
        (a = 0 ∨ 6 < a.toNat ∨ m.toNat < 1 ∨ 60000 < m.toNat → refused .badArg [])
          ∧ ∀ f : Furnace, a = numberByte f → 1 ≤ m.toNat → m.toNat ≤ 60000 →
            (∀ h : Heat, s.heatOf f = some h → refused .badState (le32 h.heatId))
              ∧ (s.heatOf f = none →
                (s.configured f = false ∨ s.store.moving[f] = true ∨ (s.programmeEntry 0).present = 0 → refused .badState [])
                  ∧ ∀ q : Fin 8, s.configured f = true → s.store.moving[f] = false → (s.programmeEntry 0).present ≠ 0 →
                    ((q.val = p.toNat ∧ (s.programmeEntry q).present ≠ 0)
                      ∨ (q = 0 ∧ ∀ k : Fin 8, k.val = p.toNat → (s.programmeEntry k).present = 0)) →
                    let record : Heat :=
                      { heatId := s.heat.nextHeatId, programme := q, stage := .melting
                        charges := [{ second := s.clock, mass := m.toNat }], merged := false
                        chargedTotal := m.toNat, pouredTotal := 0, bathMass := m.toNat
                        overfill := decide ((s.furnaceEntry f).capacity.toNat < m.toNat)
                        meltRemaining := m.toNat * (s.programmeEntry q).meltEnergy.toNat, energyDelivered := 0
                        estimate := 0, residual := 0, estimateValid := false, lastDip := none, chemistry := .none
                        holdMode := .floor, directed := none, holdTimer := none, unpowered := 0, freezeRisk := false
                        pours := 0, openedAt := s.clock }
                    exec (.heatOpen src tag a m p) s = .next
                      (answeredOk s
                        (fun x => { x with heat := { x.heat with
                            heats := x.heat.heats.set f (some record)
                            nextHeatId := if s.heat.nextHeatId = 4294967295 then 1 else s.heat.nextHeatId + 1 } })
                        0x10 tag src (le32 s.heat.nextHeatId ++ enc8 q.val) (if q.val = p.toNat then 0 else 1))))

/-- CHARGE_ADD past R21 (R24 to R28): IN_POUR in TAPPING, BAD_STATE where the charged total would pass 32 bits; otherwise the mass
up to 60,000 kg joins the bath, the list (or its sixteenth entry, MERGED) and M_r, and a molten heat returns to MELTING with its
chemistry VOID. Only this record changes. -/
def Obligations.ChargeAddTakesTheMass : Prop :=
  ∀ (s : State) (src tag : Byte) (f : Furnace) (h : Heat) (m : Half), Serving s → s.store.mode ≠ .unconfigured →
    s.heatOf f = some h → 1 ≤ m.toNat → m.toNat ≤ 60000 →
    let a := numberByte f
    let accepted := min m.toNat (60000 - h.bathMass)
    let energy := accepted * (s.programmeEntry h.programme).meltEnergy.toNat
    let molten := h.stage = .superheat ∨ h.stage = .holding
    let charged : List Charge → Bool → Heat := fun list merged =>
      { h with
        charges := list, merged := h.merged || merged
        chargedTotal := h.chargedTotal + accepted, bathMass := h.bathMass + accepted
        overfill := decide ((s.furnaceEntry f).capacity.toNat < h.bathMass + accepted), residual := 0
        stage := .melting
        meltRemaining := if molten then energy else min 4294967295 (h.meltRemaining + energy)
        chemistry := if molten then .void else h.chemistry
        estimateValid := if molten then false else h.estimateValid
        holdMode := if h.stage = .holding then .floor else h.holdMode
        directed := if h.stage = .holding then none else h.directed
        holdTimer := if h.stage = .holding then none else h.holdTimer }
    let taken := fun (list : List Charge) (merged : Bool) =>
      exec (.chargeAdd src tag a h.heatId m) s = .next
        (answeredOk s (fun x => x.setHeat f (some (charged list merged))) 0x11 tag src
          (enc16 accepted ++ enc16 (h.bathMass + accepted) ++ enc8 list.length ++ [1])
          ((if accepted < m.toNat then 1 else 0) + if merged then 4 else 0))
    (h.stage = .tapping → exec (.chargeAdd src tag a h.heatId m) s = .next (refusedWith s 0x11 tag src .inPour))
      ∧ (h.stage ≠ .tapping →
        (4294967295 < h.chargedTotal + accepted →
            exec (.chargeAdd src tag a h.heatId m) s = .next (refusedWith s 0x11 tag src .badState))
          ∧ (h.chargedTotal + accepted ≤ 4294967295 →
            (h.charges.length < 16 → taken (h.charges ++ [{ second := s.clock, mass := accepted }]) false)
              ∧ ∀ (front : List Charge) (last : Charge), h.charges = front ++ [last] → 15 ≤ front.length →
                taken (front ++ [{ second := s.clock, mass := min 65535 (last.mass + accepted) }]) true))

/-- HEAT_CLOSE past R21 (R36 to R38): IN_POUR in TAPPING; otherwise the record goes, its log entry joins newest first among eight
and is the reply's data, the allocation in force of a configured furnace falls to 0 with its holding, and the furnace leaves the
tap queue. The dip window and the other furnaces stay. -/
def Obligations.HeatCloseEndsTheHeat : Prop :=
  ∀ (s : State) (src tag : Byte) (f : Furnace) (h : Heat) (b : Byte) (reason : CloseReason), Serving s →
    s.store.mode ≠ .unconfigured → s.heatOf f = some h → (b = 1 ∧ reason = .drained) ∨ (b = 2 ∧ reason = .abandoned) →
    (h.stage = .tapping →
        exec (.heatClose src tag (numberByte f) h.heatId b) s = .next (refusedWith s 0x12 tag src .inPour))
      ∧ (h.stage ≠ .tapping →
        exec (.heatClose src tag (numberByte f) h.heatId b) s = .next
          (answeredOk s (fun x => closedOut x f h reason) 0x12 tag src
            (le32 h.heatId ++ [numberByte f] ++ enc8 h.programme.val ++ le32 h.openedAt ++ le32 s.clock ++ enc32 h.chargedTotal
              ++ enc32 h.pouredTotal ++ enc32 h.energyDelivered ++ [b] ++ enc8 h.pours)))

/-- DIP_ENTER, HOLD_SET and HOLD_RELEASE past R21 (R53, R57, R58, with R31 and R32): a host dip is recorded as a lance dip is; a
heat in HOLDING takes the clamped power and duration, its directed timer starting now; a release gives FLOOR; a heat not in
HOLDING, or not directed, is refused BAD_STATE. Only this record changes. DIP_ENTER's value is read unsigned (log 28). -/
def Obligations.DipsAndDirectedHoldsAreEntered : Prop :=
  ∀ (s : State) (src tag : Byte) (f : Furnace) (h : Heat) (v kw duration : Half), Serving s → s.store.mode ≠ .unconfigured →
    s.heatOf f = some h →
    let a := numberByte f
    let ok := fun (h' : Heat) (code : Byte) (data : List Byte) (flags : Byte) =>
      Host.Outcome.next (φ := Fault) (ρ := Refusal) (answeredOk s (fun x => x.setHeat f (some h')) code tag src data flags)
    let power := min kw.toNat (s.furnaceEntry f).rating.toNat
    let seconds := max 1 (min 3600 duration.toNat)
    (v.toNat ≤ 18000 →
        let dipped := dippedHeat s v.toNat .host h
        exec (.dipEnter src tag a h.heatId v) s = ok dipped 0x15 (enc8 dipped.stage.code ++ le16 v) 0)
      ∧ (h.stage = .holding →
        exec (.holdSet src tag a h.heatId kw duration) s =
          ok { h with
              holdMode := .directed
              directed := some { power := power, timer := { start := s.clock, length := seconds } } }
            0x16 (enc16 power ++ enc16 seconds) (if power ≠ kw.toNat ∨ seconds ≠ duration.toNat then 1 else 0))
      ∧ (h.stage ≠ .holding → exec (.holdSet src tag a h.heatId kw duration) s = .next (refusedWith s 0x16 tag src .badState))
      ∧ (h.stage = .holding ∧ h.holdMode = .directed →
        exec (.holdRelease src tag a h.heatId) s = ok { h with holdMode := .floor, directed := none } 0x17 [] 0)
      ∧ (¬ (h.stage = .holding ∧ h.holdMode = .directed) →
        exec (.holdRelease src tag a h.heatId) s = .next (refusedWith s 0x17 tag src .badState))

/-- CHEM_ACCEPT and CHEM_REVOKE (R134, R135): the checks of R21 first; an acceptance in SUPERHEAT or HOLDING takes the second of its
arrival, replacing any held, and is refused BAD_STATE in MELTING and TAPPING; a revocation makes the chemistry VOID in every stage.
Neither arbitrates, and only this record changes. -/
def Obligations.ChemistryIsAcceptedAndRevoked : Prop :=
  ∀ (s : State) (src tag a : Byte) (id : Word32), Serving s →
    (∀ st : Status, namedHeat s a id true = .error st →
        exec (.chemAccept src tag a id) s = .next (refusedWith s 0x50 tag src st)
          ∧ exec (.chemRevoke src tag a id) s = .next (refusedWith s 0x51 tag src st))
      ∧ ∀ (f : Furnace) (h : Heat), namedHeat s a id true = .ok (f, h) →
        (h.stage = .superheat ∨ h.stage = .holding → exec (.chemAccept src tag a id) s =
            .next (answeredOk s (fun x => x.setHeat f (some { h with chemistry := .accepted s.clock })) 0x50 tag src (le32 s.clock)))
          ∧ (h.stage = .melting ∨ h.stage = .tapping →
            exec (.chemAccept src tag a id) s = .next (refusedWith s 0x50 tag src .badState))
          ∧ exec (.chemRevoke src tag a id) s =
            .next (answeredOk s (fun x => x.setHeat f (some { h with chemistry := .void })) 0x51 tag src)

/-- The reads (R13, R39, R40, R77, R112, R150, R160, R165): each answers its data and changes nothing else; arguments out of range
are BAD_ARG. READ_PORTS sees the frame that carries it. A count of 0 is BAD_ARG, for TABLE_WRITE too (the model's reading,
log 11), and READ_CIRCUIT sends the age of an absent value as it stands (log 23). What the data of each read holds, byte by byte, is said in
the two statements that follow and in that on READ_TRIP. -/
def Obligations.ReadsAnswerAndChangeNothing : Prop :=
  ∀ (s : State) (src tag a b c d : Byte), Serving s →
    let ok := fun (code : Byte) (data : List Byte) => Host.Outcome.next (φ := Fault) (ρ := Refusal) (answeredOk s id code tag src data)
    let bad := fun (code : Byte) => Host.Outcome.next (φ := Fault) (ρ := Refusal) (refusedWith s code tag src .badArg)
    (∀ f : Furnace, exec (.readHeat src tag (numberByte f) 0) s = ok 0x13 (heatRecordData s f)
        ∧ exec (.readHeat src tag (numberByte f) 1) s = ok 0x13 (heatChargesData s f))
      ∧ (a = 0 ∨ 6 < a.toNat ∨ 1 < b.toNat → exec (.readHeat src tag a b) s = bad 0x13)
      ∧ exec (.readClosed src tag a b) s =
          (if 1 ≤ a.toNat ∧ a.toNat ≤ 8 ∧ 1 ≤ b.toNat ∧ b.toNat ≤ 4 then
            ok 0x14 (enc8 s.heat.closedLog.length ++ ((s.heat.closedLog.drop (a.toNat - 1)).take b.toNat).flatMap encClosed)
          else bad 0x14)
      ∧ exec (.readDemand src tag a) s =
          (if a = 0 then ok 0x20 (demandCurrentData s) else if a = 1 then ok 0x20 (demandHistoryData s) else bad 0x20)
      ∧ (∀ k : Circuit, exec (.readCircuit src tag (numberByte k)) s = ok 0x30 (circuitData s k))
      ∧ (a = 0 ∨ 16 < a.toNat → exec (.readCircuit src tag a) s = bad 0x30)
      ∧ exec (.readTap src tag a) s =
          (if a = 0 then ok 0x54 (readinessData s) else if a = 1 then ok 0x54 (stationData s) else bad 0x54)
      ∧ exec (.readPorts src tag a) s =
          (if a = 0 then ok 0x60 (portData (plantHeard s) .plant) else if a = 1 then ok 0x60 (portData s .field) else bad 0x60)
      ∧ exec (.mgmtRequest .plant s.shopEntry.partAddress src [0x60, tag, 0]) s = ok 0x60 (portData (plantHeard s) .plant)
      ∧ (∀ t : TableId, TableId.ofByte a = some t →
        exec (.tableRead src tag a b c d) s =
          if b.toNat ≤ 1 ∧ 1 ≤ d.toNat ∧ t.firstNumber ≤ c.toNat ∧ c.toNat + d.toNat ≤ t.firstNumber + t.entries
              ∧ d.toNat ≤ t.readLimit then
            ok 0x03
              ([if s.store.swapPendingOf t then 1 else 0] ++ enc16 (s.store.swapCountOf t)
                ++ [if s.store.activeBankOf t = .a then 0 else 1]
                ++ s.store.readBank t (b = 1) (c.toNat - t.firstNumber) d.toNat)
          else bad 0x03)
      ∧ (a.toNat < 1 ∨ 7 < a.toNat → exec (.tableRead src tag a b c d) s = bad 0x03)
      ∧ exec (.tableWrite src tag a b 0 []) s = bad 0x01

/-- The data of READ_HEAT, READ_CLOSED and READ_DEMAND by offset (R39, R40, R77, R165): presence bytes, the fields of an absent item
as 0, counts before their entries. The remaining seconds of the dip timer and of the directed hold are counted on the shop clock
(the model's choice, log 1). -/
def Obligations.HeatAndDemandRepliesAreLaidOut : Prop :=
  ∀ (s : State) (f : Furnace),
    let left := fun (x : Timer) => x.length - (s.clock - x.start).toNat
    let flags := fun (b : Byte) => (List.range 8).map b.getLsbD
    (let d := heatRecordData s f
     d.length = 64
        ∧ (∀ x : Timer, s.dipWindow f = some x → byteAt d 0 = 1 ∧ byteAt d 1 = BitVec.ofNat 8 (left x))
        ∧ (s.dipWindow f = none → byteAt d 0 = 0 ∧ byteAt d 1 = 0)
        ∧ halfAt d 2 = BitVec.ofNat 16 s.heat.dipInvalid ∧ halfAt d 4 = BitVec.ofNat 16 s.heat.dipUnmatched
        ∧ (s.heatOf f = none → ∀ k : Nat, 6 ≤ k → byteAt d k = 0)
        ∧ ∀ h : Heat, s.heatOf f = some h →
          (byteAt d 6 = 1 ∧ wordAt d 7 = h.heatId ∧ (byteAt d 11).toNat = h.programme.val ∧ (byteAt d 12).toNat = h.stage.code
            ∧ flags (byteAt d 13) = [h.merged, h.overfill, h.estimateValid, h.freezeRisk, false, false, false, false]
            ∧ wordAt d 14 = BitVec.ofNat 32 h.chargedTotal ∧ wordAt d 18 = BitVec.ofNat 32 h.pouredTotal
            ∧ halfAt d 22 = BitVec.ofNat 16 h.bathMass ∧ wordAt d 24 = BitVec.ofNat 32 h.meltRemaining
            ∧ wordAt d 28 = BitVec.ofNat 32 h.energyDelivered ∧ halfAt d 32 = BitVec.ofInt 16 h.estimate
            ∧ wordAt d 34 = BitVec.ofInt 32 h.residual)
          ∧ (h.lastDip = none → ∀ k : Nat, 38 ≤ k → k < 46 → byteAt d k = 0)
          ∧ (∀ x : Dip, h.lastDip = some x → byteAt d 38 = 1 ∧ halfAt d 39 = BitVec.ofInt 16 x.value ∧ wordAt d 41 = x.second
              ∧ byteAt d 45 = if x.source = .lance then 0 else 1)
          ∧ (h.chemistry = .none → byteAt d 46 = 0 ∧ wordAt d 47 = 0) ∧ (h.chemistry = .void → byteAt d 46 = 2 ∧ wordAt d 47 = 0)
          ∧ (∀ x : Word32, h.chemistry = .accepted x → byteAt d 46 = 1 ∧ wordAt d 47 = x)
          ∧ (byteAt d 51).toNat = h.holdMode.code
          ∧ (h.directed = none → ∀ k : Nat, 52 ≤ k → k < 57 → byteAt d k = 0)
          ∧ (∀ x : DirectedHold, h.directed = some x → byteAt d 52 = 1 ∧ halfAt d 53 = BitVec.ofNat 16 x.power
              ∧ halfAt d 55 = BitVec.ofNat 16 (left x.timer))
          ∧ halfAt d 57 = BitVec.ofNat 16 h.unpowered ∧ byteAt d 59 = BitVec.ofNat 8 h.pours ∧ wordAt d 60 = h.openedAt)
      ∧ (let d := heatChargesData s f
        (s.heatOf f = none → d = [0, 0, 0, 0, 0])
          ∧ ∀ h : Heat, s.heatOf f = some h →
            d.length = 5 + 6 * h.charges.length ∧ wordAt d 0 = h.heatId ∧ byteAt d 4 = BitVec.ofNat 8 h.charges.length
              ∧ ∀ (k : Nat) (c : Charge), h.charges[k]? = some c →
                wordAt d (5 + 6 * k) = c.second ∧ halfAt d (9 + 6 * k) = BitVec.ofNat 16 c.mass)
      ∧ (∀ e : ClosedHeat,
        let d := encClosed e
        d.length = 28 ∧ wordAt d 0 = e.heatId ∧ byteAt d 4 = numberByte e.furnace ∧ (byteAt d 5).toNat = e.programme.val
          ∧ wordAt d 6 = e.openedAt ∧ wordAt d 10 = e.closedAt ∧ wordAt d 14 = BitVec.ofNat 32 e.chargedTotal
          ∧ wordAt d 18 = BitVec.ofNat 32 e.pouredTotal ∧ wordAt d 22 = BitVec.ofNat 32 e.energyDelivered
          ∧ (byteAt d 26).toNat = e.reason.code ∧ byteAt d 27 = BitVec.ofNat 8 e.pours)
      ∧ (let d := demandCurrentData s
        let w := s.gov.window
        let e := s.shopEntry
        (d.length = 71 ∧ wordAt d 0 = w.number ∧ halfAt d 4 = BitVec.ofNat 16 w.elapsed ∧ wordAt d 6 = BitVec.ofNat 32 w.used
          ∧ wordAt d 10 = BitVec.ofNat 32 w.overrun ∧ wordAt d 14 = BitVec.ofNat 32 w.peak
          ∧ byteAt d 18 = BitVec.ofNat 8 w.syncCount ∧ byteAt d 19 = (if w.demandOverrun then 1 else 0)
          ∧ halfAt d 20 = BitVec.ofNat 16 w.missedSyncs ∧ halfAt d 22 = BitVec.ofNat 16 w.ignoredSyncs
          ∧ byteAt d 24 = e.windowMode ∧ halfAt d 25 = e.windowLength ∧ halfAt d 27 = e.ceiling
          ∧ wordAt d 29 = BitVec.ofNat 32 w.budget ∧ halfAt d 33 = BitVec.ofNat 16 w.remaining
          ∧ wordAt d 35 = BitVec.ofNat 32 s.gov.allowance ∧ wordAt d 39 = BitVec.ofNat 32 w.issuedTotal
          ∧ wordAt d 43 = BitVec.ofNat 32 w.floorExcess)
          ∧ ∀ g : Furnace, halfAt d (47 + 4 * g.val) = BitVec.ofNat 16 (s.powerOf g).issued
              ∧ halfAt d (49 + 4 * g.val) = BitVec.ofNat 16 (s.powerOf g).inForce)
      ∧ (let d := demandHistoryData s
        d.length = 1 + 17 * s.gov.history.length ∧ byteAt d 0 = BitVec.ofNat 8 s.gov.history.length
          ∧ ∀ (k : Nat) (e : HistoryEntry), s.gov.history[k]? = some e →
            let o := 1 + 17 * k
            wordAt d o = e.number ∧ wordAt d (o + 4) = BitVec.ofNat 32 e.used ∧ wordAt d (o + 8) = BitVec.ofNat 32 e.overrun
              ∧ wordAt d (o + 12) = BitVec.ofNat 32 e.peak ∧ (byteAt d (o + 16)).toNat = e.closedBy.code)

/-- The data of READ_CIRCUIT, READ_TAP and READ_PORTS by offset (R112, R150, R160, R165): the ages of a circuit stand whether or
not a value is held (log 23). The remaining seconds of the span timer and of the tap window timer are counted on the shop clock
(the model's choice, log 1), and without a grant the grant second is sent as 0 (the model's choice, log 32). -/
def Obligations.CircuitTapAndPortRepliesAreLaidOut : Prop :=
  ∀ (s : State) (c : Circuit) (p : Port),
    let flags := fun (b : Byte) => (List.range 8).map b.getLsbD
    let flag := fun (b : Bool) => (if b then 1 else 0 : Byte)
    (let d := circuitData s c
     let r := s.cool.circuits[c]
     let value := fun (o : Nat) (x : Option Int) =>
        byteAt d o = flag x.isSome ∧ halfAt d (o + 1) = BitVec.ofInt 16 (x.getD 0)
     (d.length = 31 ∧ byteAt d 0 = flag r.present
        ∧ value 1 r.flow.value ∧ byteAt d 4 = BitVec.ofNat 8 r.flow.age
        ∧ value 5 r.inlet.value ∧ byteAt d 8 = BitVec.ofNat 8 r.inlet.age
        ∧ value 9 r.outlet.value ∧ byteAt d 12 = BitVec.ofNat 8 r.outlet.age
        ∧ value 13 r.deltaT ∧ byteAt d 16 = BitVec.ofNat 8 (max r.inlet.age r.outlet.age)
        ∧ value 22 (r.lastSpan.map Int.ofNat) ∧ halfAt d 25 = BitVec.ofNat 16 r.bad
        ∧ byteAt d 27 = flag r.spanTimer.isSome ∧ halfAt d 29 = BitVec.ofNat 16 s.cool.sampleInvalid)
        ∧ (r.span = none → ∀ k : Nat, 17 ≤ k → k < 22 → byteAt d k = 0)
        ∧ (∀ x : Span, r.span = some x →
          byteAt d 17 = 1 ∧ halfAt d 18 = BitVec.ofInt 16 x.low ∧ halfAt d 20 = BitVec.ofInt 16 x.high)
        ∧ (r.spanTimer = none → byteAt d 28 = 0)
        ∧ ∀ x : Timer, r.spanTimer = some x → byteAt d 28 = BitVec.ofNat 8 (x.length - (s.clock - x.start).toNat))
      ∧ ((readinessData s).length = 30
        ∧ ∀ f : Furnace,
          let m := s.tap.readiness[f].met
          let at' := s.tap.readiness[f].evaluatedAt
          flags (byteAt (readinessData s) (5 * f.val)) =
              [m.stage, m.dip, m.estimate, m.chemistry, m.permit, m.mass, m.freeze, at'.isSome]
            ∧ wordAt (readinessData s) (5 * f.val + 1) = at'.getD 0)
      ∧ (let d := stationData s
        let st := s.tap.station
        let o := 1 + 9 * s.tap.queue.length
        (d.length = o + 35 ∧ byteAt d 0 = BitVec.ofNat 8 s.tap.queue.length
          ∧ ∀ (k : Nat) (e : TapEntry), s.tap.queue[k]? = some e →
            byteAt d (1 + 9 * k) = numberByte e.furnace ∧ wordAt d (2 + 9 * k) = e.heatId ∧ wordAt d (6 + 9 * k) = e.second)
          ∧ ((byteAt d o).toNat = st.state.code ∧ halfAt d (o + 12) = BitVec.ofNat 16 st.tare
            ∧ flags (byteAt d (o + 14)) =
              [st.quiet, st.overdue, st.silent, st.tapTimer.isSome, st.lastReport.isSome, st.lastRelease.isSome,
               (st.lastRelease.map (·.overdue)).getD false, false]
            ∧ halfAt d (o + 33) = BitVec.ofNat 16 s.tap.pourInvalid)
          ∧ (st.grant = none → ∀ k : Nat, k < 9 → byteAt d (o + 1 + k) = 0)
          ∧ (∀ g : Grant, st.grant = some g →
            byteAt d (o + 1) = numberByte g.furnace ∧ wordAt d (o + 2) = g.heatId ∧ wordAt d (o + 6) = g.second)
          ∧ (st.tapTimer = none → halfAt d (o + 10) = 0)
          ∧ (∀ x : Timer, st.tapTimer = some x → halfAt d (o + 10) = BitVec.ofNat 16 (x.length - (s.clock - x.start).toNat))
          ∧ (st.lastReport = none → ∀ k : Nat, k < 8 → byteAt d (o + 15 + k) = 0)
          ∧ (∀ x : StationReport, st.lastReport = some x → halfAt d (o + 15) = BitVec.ofNat 16 x.tilt
              ∧ halfAt d (o + 17) = BitVec.ofNat 16 x.weight ∧ wordAt d (o + 19) = x.second)
          ∧ (st.lastRelease = none → ∀ k : Nat, k < 10 → byteAt d (o + 23 + k) = 0)
          ∧ ∀ x : Release, st.lastRelease = some x → byteAt d (o + 23) = numberByte x.furnace ∧ wordAt d (o + 24) = x.heatId
              ∧ wordAt d (o + 28) = x.second ∧ (byteAt d (o + 32)).toNat = x.outcome.code)
      ∧ (let d := portData s p
        let x := s.port p
        let n := x.counters
        d.length = 22 ∧ halfAt d 0 = BitVec.ofNat 16 n.framesIn ∧ halfAt d 2 = BitVec.ofNat 16 n.framesOut
          ∧ halfAt d 4 = BitVec.ofNat 16 n.crcDrops ∧ halfAt d 6 = BitVec.ofNat 16 n.lengthDrops
          ∧ halfAt d 8 = BitVec.ofNat 16 n.overflowDrops ∧ halfAt d 10 = BitVec.ofNat 16 n.foreignDrops
          ∧ halfAt d 12 = BitVec.ofNat 16 n.ungoverned ∧ halfAt d 14 = BitVec.ofNat 16 n.unmapped
          ∧ halfAt d 16 = BitVec.ofNat 16 n.clamped ∧ byteAt d 18 = flag (!x.up) ∧ byteAt d 19 = flag x.holdSent
          ∧ byteAt d 20 = flag x.heldOff ∧ byteAt d 21 = BitVec.ofNat 8 (s.queueTo p).length)

/-- READ_TRIP and CLEAR_TRIP (R125, R126): a read answers the record as it stood and sets read since set, the summary of row 0 sets
nothing (the reply for an absent row is the model's reading, log 16); a clear is refused in the order of R126, and otherwise the record leaves ACTIVE, latched cuts and latch stay, and each
permit is derived anew, which can only end a SHED. The data of both reads stand by offset as R165 lays them out. -/
def Obligations.TripRecordsAreReadAndCleared : Prop :=
  ∀ (s : State) (src tag a : Byte), Serving s →
    let flags := fun (b : Byte) => (List.range 8).map b.getLsbD
    (let d := tripSummaryData s
     d.length = 18
        ∧ flags (byteAt d 0) = [s.trip.stopLatch, s.trip.causePin, s.trip.causeRow, s.estopAsserted, false, false, false, false]
        ∧ (∀ f : Furnace, (byteAt d (1 + 2 * f.val)).toNat = (s.permitOf f).code
            ∧ byteAt d (2 + 2 * f.val) = if s.trip.latchedCuts[f] then 1 else 0)
        ∧ (byteAt d 13).toNat = tripRows.countP (isActive s)
        ∧ ∀ r : TripRow, (wordAt d 14).getLsbD r.val = isActive s r)
      ∧ (a = 0 → exec (.readTrip src tag a) s = .next (answeredOk s id 0x40 tag src (tripSummaryData s)))
      ∧ (32 < a.toNat → exec (.readTrip src tag a) s = .next (refusedWith s 0x40 tag src .badArg))
      ∧ (a = 0 ∨ 32 < a.toNat → exec (.clearTrip src tag a) s = .next (refusedWith s 0x41 tag src .badArg))
      ∧ ∀ r : TripRow, a = numberByte r →
        let x := s.trip.records[r]
        let withRecord := fun (y : TripRecord) (t : State) => { t with trip := { t.trip with records := t.trip.records.set r y } }
        (let d := tripRecordData s r
         let row := rowInForce s r
         let circuitsOf := rowCircuits s row
         d.length = 37 ∧ (byteAt d 0).toNat = x.state.code ∧ byteAt d 1 = BitVec.ofNat 8 x.persistenceCount
            ∧ byteAt d 2 = BitVec.ofNat 8 x.clearCount
            ∧ flags (byteAt d 3) =
              [x.causePresent, x.readSinceSet, x.setSecond.isSome, x.valueAtSet.isSome, false, false, false, false]
            ∧ wordAt d 4 = x.setSecond.getD 0 ∧ byteAt d 8 = (x.circuitAtSet.map numberByte).getD 0
            ∧ halfAt d 9 = BitVec.ofInt 16 (x.valueAtSet.getD 0) ∧ (d.drop 11).take 12 = row.encode
            ∧ (d.drop 23).take 12 = (if x.state = .active then s.store.trip.active[r].encode else List.replicate 12 0)
            ∧ (row.present = 0 → byteAt d 35 = 0 ∧ byteAt d 36 = 0)
            ∧ (row.present ≠ 0 →
              flags (byteAt d 35) =
                  [circuitsOf.any fun c => (rowFlags s row c).hi, circuitsOf.any fun c => (rowFlags s row c).lo,
                   circuitsOf.any fun c => (rowFlags s row c).st, rowTrue s row, false, false, false, false]
                ∧ flags (byteAt d 36) = (furnaces.map fun f => rowCovers s.store.coverBanks row f) ++ [false, false]))
          ∧ exec (.readTrip src tag a) s =
            .next (answeredOk s (withRecord { x with readSinceSet := true }) 0x40 tag src (tripRecordData s r))
          ∧ (x.state ≠ .active → exec (.clearTrip src tag a) s = .next (refusedWith s 0x41 tag src .badState))
          ∧ (x.state = .active →
            (x.causePresent = true → exec (.clearTrip src tag a) s = .next (refusedWith s 0x41 tag src .causePresent))
              ∧ (x.causePresent = false →
                (x.readSinceSet = false → exec (.clearTrip src tag a) s = .next (refusedWith s 0x41 tag src .notRead))
                  ∧ (x.readSinceSet = true → PermitsSound s →
                    let cleared := withRecord
                      { x with state := .idle, persistenceCount := 0, clearCount := 0, snapshot := none } s
                    exec (.clearTrip src tag a) s = .next
                      (answeredOk s
                        (fun t => { t with trip := { cleared.trip with permits := Vector.ofFn (derivedPermit cleared) } })
                        0x41 tag src)
                      ∧ ∀ f : Furnace, derivedPermit cleared f = s.permitOf f
                          ∨ (s.permitOf f = .shed ∧ derivedPermit cleared f = .permitted))))

/-- RESTORE_POWER (R127), from permits that follow the trip unit's state: refused BAD_STATE without a latched cut and CAUSE_PRESENT,
naming the lowest row, under an ACTIVE CUT record that covers the furnace; otherwise the latched cut goes and the permit becomes
SHED or PERMITTED and is the reply's data. Nothing else changes. An absent furnace is answered like any other (log 8).
RESTORE_SHOP (R128): refused BAD_STATE with the latch clear, CAUSE_PRESENT with PIN while ESTOP_N is asserted, CAUSE_PRESENT with
ROW and the lowest ACTIVE SHOP_STOP record; otherwise latch and causes are cleared and the mode goes from SHOP_STOP to RUNNING.
Latched cuts, allocations and the tap queue stay. -/
def Obligations.RestoresClearTheCutAndTheLatch : Prop :=
  (∀ (s : State) (src tag a : Byte), Serving s → PermitsSound s →
    (a = 0 ∨ 6 < a.toNat → exec (.restorePower src tag a) s = .next (refusedWith s 0x42 tag src .badArg))
      ∧ ∀ f : Furnace, a = numberByte f →
        let covered := fun (action : TripAction) (r : TripRow) => activeCovers s s.store.coverBanks action f r = true
        (s.trip.latchedCuts[f] = false → exec (.restorePower src tag a) s = .next (refusedWith s 0x42 tag src .badState))
          ∧ (s.trip.latchedCuts[f] = true →
            (∀ r : TripRow, covered .cut r → (∀ k : TripRow, k < r → ¬ covered .cut k) →
                exec (.restorePower src tag a) s = .next (refusedWith s 0x42 tag src .causePresent [numberByte r]))
              ∧ ((∀ r : TripRow, ¬ covered .cut r) →
                let permit : Permit := if ∃ r : TripRow, covered .shed r then .shed else .permitted
                exec (.restorePower src tag a) s = .next
                  (answeredOk s
                    (fun t => { t with trip := { s.trip with
                        latchedCuts := s.trip.latchedCuts.set f false, permits := s.trip.permits.set f permit } })
                    0x42 tag src [if permit = .shed then 1 else 0]))))
    ∧ ∀ (s : State) (src tag : Byte), Serving s →
    let stops := fun (r : TripRow) =>
      s.trip.records[r].state = .active ∧ ∃ snap : TripEntry, s.trip.records[r].snapshot = some snap ∧ snap.acts = .shopStop
    (s.trip.stopLatch = false → exec (.restoreShop src tag) s = .next (refusedWith s 0x43 tag src .badState))
      ∧ (s.trip.stopLatch = true →
        (s.estopAsserted = true → exec (.restoreShop src tag) s = .next (refusedWith s 0x43 tag src .causePresent [0, 0]))
          ∧ (s.estopAsserted = false →
            (∀ r : TripRow, stops r → (∀ k : TripRow, k < r → ¬ stops k) →
                exec (.restoreShop src tag) s = .next (refusedWith s 0x43 tag src .causePresent [1, numberByte r]))
              ∧ ((∀ r : TripRow, ¬ stops r) →
                exec (.restoreShop src tag) s = .next
                  (answeredOk s
                    (fun t => { t with
                      trip := { s.trip with stopLatch := false, causePin := false, causeRow := false }
                      store := { s.store with mode := if s.store.mode = .shopStop then .running else s.store.mode } })
                    0x43 tag src))))

/-- TAP_REQUEST (R137): the checks of R21 first, then DUPLICATE for a furnace queued or granted. Otherwise the furnace is evaluated and joins the tail;
a FREE station arbitrates among all that are queued, and grants the first found ready, this furnace or one ahead of it (R140,
R141, R34, R142). The reply gives this furnace's readiness and its place after the arbitration, 0 when it was granted. -/
def Obligations.TapRequestQueuesOrIsGranted : Prop :=
  ∀ (s : State) (src tag : Byte), Serving s →
    (∀ (a : Byte) (id : Word32) (st : Status), namedHeat s a id true = .error st →
        exec (.tapRequest src tag a id) s = .next (refusedWith s 0x52 tag src st))
      ∧ ∀ (f : Furnace) (h : Heat), s.store.mode ≠ .unconfigured → s.heatOf f = some h →
    let a := numberByte f
    let now := findingsOf s f
    let holds := ∃ g : Grant, s.tap.station.grant = some g ∧ g.furnace = f
    let queued := ∃ e ∈ s.tap.queue, e.furnace = f
    let joined := fun (x : State) =>
      { x with tap := { x.tap with
          readiness := s.tap.readiness.set f { met := now, evaluatedAt := some s.clock }
          queue := s.tap.queue ++ [{ furnace := f, heatId := h.heatId, second := s.clock }] } }
    let replied := fun (place : Nat) => encFlag now.allMet ++ enc8 now.firstUnmet ++ enc8 place
    (queued ∨ holds → exec (.tapRequest src tag a h.heatId) s = .next (refusedWith s 0x52 tag src .duplicate))
      ∧ (¬ queued → ¬ holds →
        (s.tap.station.state ≠ .free →
            exec (.tapRequest src tag a h.heatId) s =
              .next (answeredOk s joined 0x52 tag src (replied (s.tap.queue.length + 1))))
          ∧ (s.tap.station.state = .free → ∀ t : State, t = arbitrated (joined (plantHeard s)) →
            ((∀ e ∈ t.tap.queue, e.furnace ≠ f) → exec (.tapRequest src tag a h.heatId) s =
                .next (withReply t (replyOf s.shopEntry.partAddress 0x52 tag src .ok 0 (replied 0))))
              ∧ ∀ (front back : List TapEntry) (e : TapEntry), t.tap.queue = front ++ e :: back → e.furnace = f →
                (∀ x ∈ front, x.furnace ≠ f) → exec (.tapRequest src tag a h.heatId) s =
                  .next (withReply t (replyOf s.shopEntry.partAddress 0x52 tag src .ok 0 (replied (front.length + 1))))))

/-- TAP_CANCEL (R138): the checks of R21 first; a queued furnace leaves the queue; a grant still in its tap window is withdrawn TAP_CANCELLED, with
an URGENT OFF and the heat back in HOLDING (R35, R146), and the station arbitrates among the queued furnaces (R140); a pour under
way is refused IN_POUR; a furnace neither queued nor granted BAD_STATE. -/
def Obligations.TapCancelWithdrawsTheRequest : Prop :=
  ∀ (s : State) (src tag : Byte), Serving s →
    (∀ (a : Byte) (id : Word32) (st : Status), namedHeat s a id true = .error st →
        exec (.tapCancel src tag a id) s = .next (refusedWith s 0x53 tag src st))
      ∧ ∀ (f : Furnace) (h : Heat), s.store.mode ≠ .unconfigured → s.heatOf f = some h →
    let a := numberByte f
    let queued := ∃ e ∈ s.tap.queue, e.furnace = f
    (queued → exec (.tapCancel src tag a h.heatId) s = .next
        (answeredOk s (fun x => { x with tap := { s.tap with queue := s.tap.queue.filter fun e => e.furnace ≠ f } }) 0x53 tag src))
      ∧ (¬ queued →
        (∀ g : Grant, s.tap.station.grant = some g → g.furnace = f →
            (s.tap.station.state = .granted → exec (.tapCancel src tag a h.heatId) s =
                .next (answeredOk s (fun x => arbitrated (withdrawn x g .tapCancelled)) 0x53 tag src))
              ∧ (s.tap.station.state = .pouring →
                exec (.tapCancel src tag a h.heatId) s = .next (refusedWith s 0x53 tag src .inPour)))
          ∧ ((∀ g : Grant, s.tap.station.grant = some g → g.furnace ≠ f) →
            exec (.tapCancel src tag a h.heatId) s = .next (refusedWith s 0x53 tag src .badState)))

/-! ### Timers -/

/-- SHOP_STATUS (R166, R167): at each status expiry the timer starts again and, with PLANT UP, a frame to the broadcast address
replaces the holding; its 98 bytes hold the fields of R167 at their offsets. With PLANT DOWN no holding is made. -/
def Obligations.StatusExpiryBuildsTheFrame : Prop :=
  ∀ s : State, s.resetLow = false →
    let timed := { s.resp with statusTimer := { start := s.clock, length := s.shopEntry.statusPeriod.toNat } }
    (s.link.plant.up = false → exec .statusTimerExpiry s = .next { s with resp := timed })
      ∧ (s.link.plant.up = true → ∃ fr : Frame,
        exec .statusTimerExpiry s = .next { s with resp := { timed with statusHolding := some fr } }
          ∧ fr.dst = 127 ∧ fr.src = s.shopEntry.partAddress ∧ fr.kind = 0x6A ∧ fr.payload.length = 98
          ∧ (let b := byteAt fr.payload
            let w := s.gov.window
            let st := s.tap.station
            (b 0).toNat = s.store.mode.code ∧ wordAt fr.payload 1 = s.clock ∧ wordAt fr.payload 5 = w.number
              ∧ halfAt fr.payload 9 = BitVec.ofNat 16 w.elapsed ∧ wordAt fr.payload 11 = BitVec.ofNat 32 w.used
              ∧ wordAt fr.payload 15 = BitVec.ofNat 32 s.gov.allowance
              ∧ (List.range 8).map (b 19).getLsbD =
                  [w.demandOverrun, s.trip.stopLatch, s.trip.causePin, s.trip.causeRow, st.overdue, st.silent, false, false]
              ∧ (b 20).toNat = tripRows.countP (isActive s) ∧ (b 21).toNat = st.state.code
              ∧ (∀ g : Grant, st.grant = some g → b 22 = numberByte g.furnace) ∧ (st.grant = none → b 22 = 0)
              ∧ (∀ r : Release, st.lastRelease = some r → (b 23).toNat = r.outcome.code) ∧ (st.lastRelease = none → b 23 = 0)
              ∧ halfAt fr.payload 24 = BitVec.ofNat 16 s.resp.replyOverflow)
          ∧ ∀ f : Furnace,
            let o := 26 + 12 * f.val
            let b := fun k => byteAt fr.payload (o + k)
            let m := s.tap.readiness[f].met
            halfAt fr.payload (o + 5) = BitVec.ofNat 16 (s.powerOf f).inForce ∧ (b 10).toNat = m.firstUnmet
              ∧ (b 11).toNat = (s.permitOf f).code
              ∧ (s.heatOf f = none → b 0 = 0 ∧ wordAt fr.payload (o + 1) = 0 ∧ halfAt fr.payload (o + 7) = 0
                  ∧ (List.range 8).map (b 9).getLsbD = [false, m.allMet, false, false, false, false, false, false])
              ∧ ∀ h : Heat, s.heatOf f = some h → (b 0).toNat = h.stage.code ∧ wordAt fr.payload (o + 1) = h.heatId
                  ∧ halfAt fr.payload (o + 7) = BitVec.ofInt 16 h.estimate
                  ∧ (List.range 8).map (b 9).getLsbD =
                      [h.estimateValid, m.allMet, h.freezeRisk, false, false, false, false, false])

/-- One integration in MELTING (R43 to R45, R30, R31, R48): a fresh report or the allocation in force, within the rating, is
delivered; M_r falls by the net energy; at 0 the heat is in SUPERHEAT at the melt-out temperature, or in HOLDING at its target. An
empty furnace only restarts its timer. -/
def Obligations.IntegrationMeltsTheCharge : Prop :=
  ∀ (s : State) (f : Furnace), s.resetLow = false →
    let timers := s.heat.integrationTimers.set f { start := s.clock, length := 1 }
    let entry := s.furnaceEntry f
    let inForce := (s.powerOf f).inForce
    (s.heatOf f = none →
        exec (.integrationTimerExpiry f) s = .next { s with heat := { s.heat with integrationTimers := timers } })
      ∧ ∀ (h : Heat) (chosen : Nat), s.heatOf f = some h → h.stage = .melting →
        ((∃ r : PowerReading, (s.powerOf f).report = some r ∧ (s.clock - r.second).toNat ≤ 2 ∧ chosen = r.power)
          ∨ ((∀ r : PowerReading, (s.powerOf f).report = some r → 2 < (s.clock - r.second).toNat) ∧ chosen = inForce)) →
        let p := min chosen entry.rating.toNat
        let net : Int := ((p * entry.efficiency.toNat / 1024 : Nat) : Int) - entry.loss.toNat
        let left := h.meltRemaining - net.toNat
        let programme := s.programmeEntry h.programme
        let delivered := min 4294967295 (h.energyDelivered + p)
        let counted := min 65535 (h.unpowered + 1)
        let integrated := fun (h' : Heat) =>
          exec (.integrationTimerExpiry f) s = .next
            { s with heat := { s.heat with heats := s.heat.heats.set f (some h'), integrationTimers := timers } }
        (0 < left → integrated
            { h with
              energyDelivered := delivered, meltRemaining := left
              unpowered := if 0 < inForce then 0 else h.unpowered
              freezeRisk := if 0 < inForce then false else h.freezeRisk })
          ∧ (left = 0 →
            let holds := programme.holdTarget.toNat ≤ programme.meltOut.toNat
            integrated
              { h with
                energyDelivered := delivered, meltRemaining := 0
                stage := if holds then .holding else .superheat
                estimate := programme.meltOut.toNat, residual := 0, estimateValid := true
                holdMode := if holds then .floor else h.holdMode
                holdTimer := if holds then some { start := s.clock, length := programme.holdInterval.toNat } else h.holdTimer
                unpowered := if 0 < inForce then 0 else counted
                freezeRisk := if 0 < inForce then false else h.freezeRisk || decide (entry.freezeLimit.toNat ≤ counted) })

/-- One integration in SUPERHEAT, HOLDING or TAPPING (R43, R44, R46, R31, R48): the estimate moves by the floor of the net energy
over mass times specific heat, the remainder is carried, the result is held within 0 to 18,000; TAPPING delivers nothing to the
bath; without power the seconds count toward FREEZE_RISK. -/
def Obligations.IntegrationMovesTheEstimate : Prop :=
  ∀ (s : State) (f : Furnace) (h : Heat) (chosen : Nat) (q : Int), s.resetLow = false → s.heatOf f = some h → h.stage ≠ .melting →
    ((∃ r : PowerReading, (s.powerOf f).report = some r ∧ (s.clock - r.second).toNat ≤ 2 ∧ chosen = r.power)
      ∨ ((∀ r : PowerReading, (s.powerOf f).report = some r → 2 < (s.clock - r.second).toNat)
        ∧ chosen = (s.powerOf f).inForce)) →
    let entry := s.furnaceEntry f
    let inForce := (s.powerOf f).inForce
    let programme := s.programmeEntry h.programme
    let p := min chosen entry.rating.toNat
    let net : Int := (if h.stage = .tapping then 0 else ((p * entry.efficiency.toNat / 1024 : Nat) : Int)) - entry.loss.toNat
    let k : Int := ((h.bathMass * programme.specificHeat.toNat : Nat) : Int)
    let n := net * 10000 + h.residual
    let counted := min 65535 (h.unpowered + 1)
    let integrated := fun (estimate residual : Int) =>
      let holds := h.stage = .superheat ∧ (programme.holdTarget.toNat : Int) ≤ estimate
      exec (.integrationTimerExpiry f) s = .next
        { s with heat :=
          { s.heat with
            integrationTimers := s.heat.integrationTimers.set f { start := s.clock, length := 1 }
            heats := s.heat.heats.set f (some
              { h with
                energyDelivered := min 4294967295 (h.energyDelivered + p)
                estimate := estimate, residual := residual
                stage := if holds then .holding else h.stage
                holdMode := if holds then .floor else h.holdMode
                holdTimer := if holds then some { start := s.clock, length := programme.holdInterval.toNat } else h.holdTimer
                unpowered := if 0 < inForce then 0 else counted
                freezeRisk := if 0 < inForce then false else h.freezeRisk || decide (entry.freezeLimit.toNat ≤ counted) }) } }
    (h.bathMass = 0 → integrated h.estimate 0)
      ∧ (0 < k → k * q ≤ n → n < k * (q + 1) →
        (0 ≤ h.estimate + q ∧ h.estimate + q ≤ 18000 → integrated (h.estimate + q) (n - q * k))
          ∧ (h.estimate + q < 0 → integrated 0 0) ∧ (18000 < h.estimate + q → integrated 18000 0))

/-- The allocation period expiry with no swap pending (R64 to R67, R73, R75, R81, R92): the period is charged, t advances, the
window closes on its own timer by mode, the allowance is the unspent budget over the time left within peak cap and unit ratings,
the issued total and floor excess are those of the new allocations, and the holdings follow what changed. t stays at its largest
value (log 19). -/
def Obligations.PeriodExpiryChargesAndAllots : Prop :=
  ∀ s : State, s.resetLow = false → (∀ id ∈ ([.shop, .unit, .furnace, .programme] : List TableId), s.store.swapPendingOf id = false) →
    let w := s.gov.window
    let e := s.shopEntry
    let used := min 4294967295 (w.used + w.issuedTotal)
    let overrun := min 4294967295 (w.overrun + w.floorExcess)
    let peak := max w.peak w.issuedTotal
    let t := min 65535 (w.elapsed + 1)
    let closes := (if e.windowMode = 0 then e.windowLength.toNat else e.windowLength.toNat + e.syncGuard.toNat) ≤ t
    ∃ u : State, exec .allocationPeriodExpiry s = .next u
      ∧ u.gov.history =
          (if closes then
            (({ number := w.number, used := used, overrun := overrun, peak := peak
                closedBy := if e.windowMode = 0 then .timer else .syncMissed } : HistoryEntry) :: s.gov.history).take 4
          else s.gov.history)
      ∧ u.gov.window =
          { (if closes then
              { w with
                number := w.number + 1, elapsed := 0, used := 0, overrun := 0, peak := 0, syncCount := 0, demandOverrun := false
                missedSyncs := if e.windowMode = 0 then w.missedSyncs else min 65535 (w.missedSyncs + 1) }
            else
              { w with
                elapsed := t, used := used, overrun := overrun, peak := peak
                demandOverrun := w.demandOverrun || decide (0 < w.floorExcess) }) with
            budget := e.ceiling.toNat * e.windowLength.toNat
            remaining := max 1 (e.windowLength.toNat - u.gov.window.elapsed)
            issuedTotal := (furnaces.map fun f => (u.powerOf f).issued).sum
            floorExcess := u.gov.window.issuedTotal - u.gov.allowance }
      ∧ u.gov.allowance =
          min (min ((u.gov.window.budget - u.gov.window.used) / u.gov.window.remaining) e.peakCap.toNat)
            (powerUnits.map fun k =>
              if s.store.unit.active[k].present = 0 then 0 else s.store.unit.active[k].rating.toNat).sum
      ∧ (∀ f : Furnace,
          let p := s.powerOf f
          let v := (u.powerOf f).inForce
          (s.configured f = false → v = 0)
            ∧ u.powerOf f =
              { p with
                issued := v, inForce := v
                request :=
                  if s.configured f then p.request.filter fun r => decide ((s.clock - r.second).toNat ≤ e.requestLifetime.toNat)
                  else p.request
                holding :=
                  if v = p.inForce then p.holding else if v = p.lastSent then none
                  else some { value := v, urgent := decide (v < p.lastSent) } })
      ∧ u.gov.allocationTimer = { start := s.clock, length := 1 } ∧ u.gov.plantSilence = s.gov.plantSilence
      ∧ u = { s with gov := u.gov }

/-- The allocation period expiry with swaps pending (R12, R16): the pending tables of the governor are exchanged at that expiry, after
the charge and the close test under the old SHOP entry and before the allowance and the allocations under the new banks (R64, R76,
R73, R98). Open heats lose an absent programme, a residual of another specific heat, their OVERFILL and their BOOST above the new
limit (R41, R47, R60). Newly covered furnaces are cut, permits follow, a cut grant is withdrawn (R122, R123; logs 8, 13). -/
def Obligations.PeriodExpiryPerformsPendingSwaps : Prop :=
  ∀ s : State, s.resetLow = false →
    let waits := s.store.swapPendingOf
    let w := s.gov.window
    let e := s.shopEntry
    let t := min 65535 (w.elapsed + 1)
    let closes := (if e.windowMode = 0 then e.windowLength.toNat else e.windowLength.toNat + e.syncGuard.toNat) ≤ t
    ∃ u : State, exec .allocationPeriodExpiry s = .next u
      ∧ SwapsTaken [.shop, .unit, .furnace, .programme] s.store u.store ∧ u.store.mode = s.store.mode
      ∧ (let e' := u.shopEntry
         let w' := u.gov.window
         w'.number = (if closes then w.number + 1 else w.number) ∧ w'.elapsed = (if closes then 0 else t)
          ∧ w'.used = (if closes then 0 else min 4294967295 (w.used + w.issuedTotal))
          ∧ w'.syncCount =
            (if closes ∨ (waits .shop = true ∧ (e'.windowMode ≠ e.windowMode ∨ e'.syncsPerWindow ≠ e.syncsPerWindow)) then 0
            else w.syncCount)
          ∧ w'.budget = e'.ceiling.toNat * e'.windowLength.toNat ∧ w'.remaining = max 1 (e'.windowLength.toNat - w'.elapsed)
          ∧ u.gov.allowance =
            min (min ((w'.budget - w'.used) / w'.remaining) e'.peakCap.toNat)
              (powerUnits.map fun k =>
                if u.store.unit.active[k].present = 0 then 0 else u.store.unit.active[k].rating.toNat).sum
          ∧ w'.issuedTotal = (furnaces.map fun f => (u.powerOf f).issued).sum
          ∧ w'.floorExcess = w'.issuedTotal - u.gov.allowance)
      ∧ (∀ f : Furnace,
          let p := s.powerOf f
          let q := u.powerOf f
          q.issued = q.inForce ∧ q.lastSent = p.lastSent ∧ q.report = p.report
            ∧ (s.configured f = true → u.configured f = false →
              q = { p with issued := 0, inForce := 0, holding := none, refresh := none })
            ∧ (u.configured f = true → q.inForce ≤ capOf u f ∧ q.inForce ≤ (u.furnaceEntry f).rating.toNat
              ∧ q.request = p.request.filter fun r => decide ((s.clock - r.second).toNat ≤ u.shopEntry.requestLifetime.toNat))
            ∧ (s.configured f = false → u.configured f = true →
              q.refresh = some { start := s.clock, length := 2 } ∧ q.inForce ≤ (u.furnaceEntry f).ramp.toNat)
            ∧ (s.configured f = u.configured f → q.refresh = p.refresh))
      ∧ (∀ f : Furnace,
          (s.heatOf f = none → u.heatOf f = none)
            ∧ ∀ h : Heat, s.heatOf f = some h → ∃ k : Heat, u.heatOf f = some k
              ∧ k.programme = (if waits .programme = true ∧ (u.programmeEntry h.programme).present = 0 then 0 else h.programme)
              ∧ k = { h with
                  programme := k.programme, stage := k.stage, holdMode := k.holdMode, directed := k.directed
                  holdTimer := k.holdTimer
                  residual :=
                    if (u.programmeEntry k.programme).specificHeat = (s.programmeEntry h.programme).specificHeat then h.residual
                    else 0
                  overfill := if waits .furnace then decide ((u.furnaceEntry f).capacity.toNat < h.bathMass) else h.overfill }
              ∧ (u.trip = s.trip → k.stage = h.stage ∧ k.directed = h.directed ∧ k.holdTimer = h.holdTimer
                ∧ k.holdMode =
                  if waits .shop = true ∧ h.holdMode = .boost ∧ u.shopEntry.boostLimit.toNat ≤
                      furnaces.countP fun g => decide (g < f) && decide ((s.heatOf g).map (·.holdMode) = some .boost)
                  then .boostWait else h.holdMode))
      ∧ (∀ f : Furnace,
          (u.trip.latchedCuts[f] = true ↔ s.trip.latchedCuts[f] = true
            ∨ ((waits .unit = true ∨ waits .furnace = true) ∧ NewlyCovered s s.store u.store f))
            ∧ u.permitOf f = if waits .unit = true ∨ waits .furnace = true then permitFrom u (s.permitOf f) f else s.permitOf f)
      ∧ u.trip = { s.trip with permits := u.trip.permits, latchedCuts := u.trip.latchedCuts }
      ∧ (∀ g : Grant, s.tap.station.state = .granted → s.tap.station.grant = some g → s.permitOf g.furnace ≠ .cut →
          u.permitOf g.furnace = .cut → u.tap.station.lastRelease = some
            { furnace := g.furnace, heatId := g.heatId, second := s.clock, outcome := .tapCut, overdue := s.tap.station.overdue })
      ∧ (u.trip = s.trip → u.tap = s.tap)
      ∧ u.cool = s.cool ∧ u.link = s.link ∧ u.resp = s.resp ∧ u.heat.closedLog = s.heat.closedLog
      ∧ u.heat.dipWindows = s.heat.dipWindows

/-- The distribution at a period expiry (R84 to R89): every configured furnace is issued no more than its request, its cap and its
last allocation plus its ramp; a furnace holding gets its hold floor in full; where the floors fit the units (R8), no unit
passes its rating (R88 step 2 read with R89, log 7); and the total passes the allowance only by the floors. The floors come first,
in full, then the boost, superheat and melt classes, each from the pool the class before it leaves (R87), by full grant where the
claims fit the pool, and by shares and fill where they do not (R88). -/
def Obligations.AllotmentsFitTargetsAndRatings : Prop :=
  ∀ s : State, s.resetLow = false → (∀ id ∈ ([.shop, .unit, .furnace, .programme] : List TableId), s.store.swapPendingOf id = false) →
    let request := fun (f : Furnace) => requestOf (s.furnaceEntry f) (s.heatOf f) (freshRequest s (s.powerOf f).request)
    let target := fun (f : Furnace) =>
      min (min (request f) (capOf s f)) ((s.powerOf f).inForce + (s.furnaceEntry f).ramp.toNat)
    let floors := fun (f : Furnace) =>
      if s.configured f && decide ((s.heatOf f).map (·.stage) = some .holding) then min (s.furnaceEntry f).holdFloor.toNat (target f) else 0
    let target' := fun (f : Furnace) => if s.configured f then target f else 0
    let heldIn := fun (st : Stage) (f : Furnace) => s.configured f && decide ((s.heatOf f).map (·.stage) = some st)
    ∃ t : State, exec .allocationPeriodExpiry s = .next t
      ∧ (∀ f : Furnace, s.configured f = true → (t.powerOf f).issued ≤ target f ∧ floors f ≤ (t.powerOf f).issued)
      ∧ ((∀ u : PowerUnit, (furnaces.map fun f => if s.feedingUnit f = some u then (s.furnaceEntry f).holdFloor.toNat else 0).sum
            ≤ s.store.unit.active[u].rating.toNat) →
        ∀ u : PowerUnit, (furnaces.map fun f => if s.feedingUnit f = some u then (t.powerOf f).issued else 0).sum
          ≤ s.store.unit.active[u].rating.toNat)
      ∧ t.gov.window.issuedTotal ≤ max t.gov.allowance (furnaces.map floors).sum
      ∧ ∃ (boost superheat melt : Furnace → Nat) (pool2 pool3 pool4 : Nat),
        ClassServed s (heldIn .holding) (fun f => target' f - floors f) floors boost
            (t.gov.allowance - (furnaces.map floors).sum) pool2
          ∧ ClassServed s (heldIn .superheat) target' boost superheat pool2 pool3
          ∧ ClassServed s (heldIn .melting) target' superheat melt pool3 pool4
          ∧ ∀ f : Furnace, (t.powerOf f).issued = melt f

/-- Plant silence, refresh, directed-hold and hold-interval expiries (R82, R93, R59, R55): silence makes every request absent and
ends every directed hold; a refresh makes a holding where none waits; a directed hold ends in FLOOR; a heat is evaluated against
its band, and takes a boost slot or waits for one. A stopped timer does nothing (log 1). -/
def Obligations.SilenceRefreshAndHoldTimersExpire : Prop :=
  ∀ (s : State) (f : Furnace), s.resetLow = false →
    let p := s.powerOf f
    let ended := fun (h : Heat) => if h.directed.isSome then { h with holdMode := .floor, directed := none } else h
    (s.gov.plantSilence = none → exec .plantSilence s = .next s)
      ∧ (s.gov.plantSilence.isSome = true → exec .plantSilence s = .next
        { s with
          gov := { s.gov with
            plantSilence := none, furnaces := Vector.ofFn fun g => { s.powerOf g with request := none } }
          heat := { s.heat with heats := Vector.ofFn fun g => (s.heatOf g).map ended } })
      ∧ (p.refresh = none → exec (.refreshTimerExpiry f) s = .next s)
      ∧ (p.refresh.isSome = true → exec (.refreshTimerExpiry f) s = .next
        (s.setPower f { p with
          refresh := none
          holding := some (p.holding.getD { value := p.inForce, urgent := decide (p.inForce < p.lastSent) }) }))
      ∧ (s.heatOf f = none →
        exec (.directedHoldExpiry f) s = .next s ∧ exec (.holdIntervalExpiry f) s = .next s)
      ∧ ∀ h : Heat, s.heatOf f = some h →
        let programme := s.programmeEntry h.programme
        let low : Int := programme.holdTarget.toNat - programme.bandLow.toNat
        let high : Int := programme.holdTarget.toNat + programme.bandHigh.toNat
        let skipped := h.holdMode = .directed ∨ (s.dipWindow f).isSome = true ∨ s.permitOf f ≠ .permitted ∨ s.store.mode ≠ .running
        let evaluated := fun (m : HoldMode) =>
          exec (.holdIntervalExpiry f) s = .next
            (s.setHeat f (some { h with
              holdMode := m, holdTimer := some { start := s.clock, length := programme.holdInterval.toNat } }))
        exec (.directedHoldExpiry f) s = .next (s.setHeat f (some (ended h)))
          ∧ (h.holdTimer = none → exec (.holdIntervalExpiry f) s = .next s)
          ∧ (h.holdTimer.isSome = true →
            (skipped → evaluated h.holdMode)
              ∧ (¬ skipped →
                (h.estimate < low → evaluated
                    (if h.holdMode = .boost ∨ boostSlotsInUse s < s.shopEntry.boostLimit.toNat then .boost else .boostWait))
                  ∧ (high ≤ h.estimate → evaluated .floor)
                  ∧ (low ≤ h.estimate → h.estimate < high → evaluated h.holdMode)))

/-- The age and span timers (R108, R109): with no cooling swap pending every age of a circuit in service rises by 1 to at most 255;
a span expiry closes the span into the last span and opens the next at the held flow; the expiry of a stopped span timer changes
nothing (the model's choice, log 1). Tables, link, replies and the window account stay. -/
def Obligations.CoolingTimersAgeAndCloseSpans : Prop :=
  ∀ s : State, s.resetLow = false →
    let kept := fun (t : State) =>
      t.store = { s.store with mode := t.store.mode } ∧ t.link = s.link ∧ t.resp = s.resp ∧ t.gov.window = s.gov.window
        ∧ t.heat.closedLog = s.heat.closedLog ∧ t.cool.sampleInvalid = s.cool.sampleInvalid
        ∧ ∀ f : Furnace, (t.powerOf f).lastSent = (s.powerOf f).lastSent ∧ (t.powerOf f).issued = (s.powerOf f).issued
    ((∀ id ∈ ([.channel, .circuit, .trip] : List TableId), s.store.swapPendingOf id = false) →
        ∃ t : State, exec .ageTimerExpiry s = .next t ∧ kept t ∧ t.cool.ageTimer = { start := s.clock, length := 1 }
          ∧ ∀ c : Circuit,
            let r := s.cool.circuits[c]
            let older := fun (q : HeldQuantity) => { q with age := min 255 (q.age + 1) }
            t.cool.circuits[c] =
              if r.present then { r with flow := older r.flow, inlet := older r.inlet, outlet := older r.outlet } else r)
      ∧ ∀ c : Circuit,
        let r := s.cool.circuits[c]
        (r.spanTimer = none → exec (.spanTimerExpiry c) s = .next s)
          ∧ (r.spanTimer.isSome = true →
            ∃ t : State, exec (.spanTimerExpiry c) s = .next t ∧ kept t ∧ t.cool.ageTimer = s.cool.ageTimer
              ∧ t.cool.circuits = s.cool.circuits.set c
                  { r with
                    lastSpan := match r.span with
                      | some sp => some (sp.high - sp.low).toNat
                      | none => r.lastSpan
                    span := r.flow.value.map fun x => { low := x, high := x }
                    spanTimer := some { start := s.clock, length := s.store.circuit.active[c].spanPeriod.toNat } })

/-- The age expiry with swaps pending (R12, R16, R108): after the ageing the pending tables of the cooling monitor are exchanged.
At a CIRCUIT swap each record follows its new present flag (R111), newly covered furnaces are cut and permits follow (R122, R123);
at a TRIP swap the records that are not ACTIVE are reset (R130). The STALE and FAULT rows are then evaluated under the new banks. -/
def Obligations.AgeExpiryPerformsPendingSwaps : Prop :=
  ∀ s : State, s.resetLow = false →
    let waits := s.store.swapPendingOf
    let older := fun (q : HeldQuantity) => { q with age := min 255 (q.age + 1) }
    ∃ u : State, exec .ageTimerExpiry s = .next u
      ∧ SwapsTaken [.channel, .circuit, .trip] s.store u.store
      ∧ (∀ c : Circuit,
          let r := s.cool.circuits[c]
          let aged := if r.present then { r with flow := older r.flow, inlet := older r.inlet, outlet := older r.outlet } else r
          u.cool.circuits[c] =
            if waits .circuit = true then recordFollowing s u.store.circuit.active[c] aged else aged)
      ∧ (∃ records : Vector TripRecord 32,
          (∀ k : TripRow, records[k] =
            if waits .trip = true then recordAfterSwap s.trip.records[k] else s.trip.records[k])
            ∧ RowsEvaluated
                { s with store := { u.store with mode := s.store.mode }, cool := u.cool, trip := { s.trip with records := records } }
                u fun row => row.test = .stale ∨ row.test = .fault)
      ∧ (waits .circuit = true → ∀ f : Furnace,
          (NewlyCovered s s.store u.store f → u.trip.latchedCuts[f] = true)
            ∧ (s.trip.latchedCuts[f] = true → u.trip.latchedCuts[f] = true)
            ∧ ((u.furnaceEntry f).present ≠ 0 → u.permitOf f = permitFrom u (s.permitOf f) f)
            ∧ ((u.furnaceEntry f).present = 0 → PermitsSound s → u.permitOf f = s.permitOf f))
      ∧ (∀ f : Furnace, u.configured f = s.configured f
          ∧ (u.permitOf f = .cut → s.permitOf f ≠ .cut → s.configured f = true → (u.powerOf f).inForce = 0))
      ∧ u.cool.sampleInvalid = s.cool.sampleInvalid ∧ u.link = s.link ∧ u.resp = s.resp ∧ u.gov.window = s.gov.window
      ∧ u.heat.closedLog = s.heat.closedLog

/-- The rows each event evaluates (R117, R119 to R124): at an age expiry the STALE and FAULT rows, at the end of a SAMPLE frame the
rows that watch a quantity touched on a circuit of theirs (R107), at a span expiry the FLOW_SPAN rows of the circuit (R109), against
the records the event left. Consecutive true evaluations count to the persistence and activate the row, with its set fields and
snapshot; a self-clearing record returns by false ones. An activated CUT row latches and cuts every furnace it covers, a SHED row
holds them at their floor, a SHOP_STOP row sets the latch. A SAMPLE takes in its readings first. -/
def Obligations.EventsEvaluateTheRowsDue : Prop :=
  ∀ s : State, s.resetLow = false →
    ((∀ id ∈ ([.channel, .circuit, .trip] : List TableId), s.store.swapPendingOf id = false) →
        ∃ t : State, exec .ageTimerExpiry s = .next t
          ∧ RowsEvaluated (ageCircuits s) t fun row => row.test = .stale ∨ row.test = .fault)
      ∧ (∀ (dst src : Byte) (pl : List Byte), dst ≠ s.shopEntry.partAddress → pl.length % 4 = 0 → pl.length ≤ 116 →
        let m := readingsTaken src pl (fieldHeard s)
        ∃ t : State, exec (.sample .field dst src pl) s = .next t ∧ t.cool = m.cool
          ∧ RowsEvaluated m t (fun row => ∃ c : Circuit, inScope s row c = true ∧ Touches s src pl c row.watches)
          ∧ t.link = (offered .field { dst := dst, src := src, kind := 0x11, payload := pl } m).link)
      ∧ ∀ (c : Circuit) (x : Timer), s.cool.circuits[c].spanTimer = some x →
        ∃ t : State, exec (.spanTimerExpiry c) s = .next t
          ∧ RowsEvaluated { s with cool := t.cool } t fun row => row.watches = .flowSpan ∧ inScope s row c = true

/-- The readiness expiry (R132, R133, R140 to R142, R34, R90): all six records are evaluated; with the station FREE the first queued
furnace found ready is granted, entries before it keeping their places; its heat goes to TAPPING and its allocation to 0. -/
def Obligations.ReadinessExpiryGrantsTheFirstReady : Prop :=
  ∀ s : State, s.resetLow = false →
    let ready := fun (e : TapEntry) => (findingsOf s e.furnace).allMet
    let evaluated := { s.tap with
      readinessTimer := { start := s.clock, length := 1 }
      readiness := Vector.ofFn fun f => { met := findingsOf s f, evaluatedAt := some s.clock } }
    (s.tap.station.state ≠ .free ∨ (∀ e ∈ s.tap.queue, ready e = false) →
        exec .readinessTimerExpiry s = .next { s with tap := evaluated })
      ∧ ∀ (front back : List TapEntry) (e : TapEntry) (h : Heat), s.tap.station.state = .free →
        s.tap.queue = front ++ e :: back → (∀ x ∈ front, ready x = false) → ready e = true →
        (∀ x ∈ front ++ back, x.furnace ≠ e.furnace) → s.heatOf e.furnace = some h → s.configured e.furnace = true →
        ∃ t : State, exec .readinessTimerExpiry s = .next t
          ∧ t.tap =
              { evaluated with
                queue := front ++ back
                station :=
                  { s.tap.station with
                    state := .granted, grant := some { furnace := e.furnace, heatId := e.heatId, second := s.clock }
                    tare := (s.tap.station.lastReport.map (·.weight)).getD 0, overdue := false, silent := s.tap.station.quiet
                    tapTimer := some { start := s.clock, length := s.shopEntry.tapWindow.toNat } }
                tiltHolding := some { on := true, urgent := false, furnace := e.furnace, heatId := e.heatId } }
          ∧ t.heatOf e.furnace = some { h with stage := .tapping, holdMode := .floor, directed := none, holdTimer := none }
          ∧ (t.powerOf e.furnace).inForce = 0 ∧ (t.powerOf e.furnace).issued = (s.powerOf e.furnace).issued
          ∧ (∀ g : Furnace, g ≠ e.furnace → t.heatOf g = s.heatOf g ∧ t.powerOf g = s.powerOf g)
          ∧ t = { s with heat := { s.heat with heats := t.heat.heats }, gov := { s.gov with furnaces := t.gov.furnaces }, tap := t.tap }

/-- The tap window and station silence (R143, R145, R146): in GRANTED the expiry withdraws the grant TAP_LAPSED and the station
arbitrates among the queued furnaces (R140); in POURING it sets OVERDUE and the pour goes on, the timer standing stopped from then
on (the model's choice, log 30); silence sets quiet, and SILENT outside FREE. Stopped timers do nothing (log 1). -/
def Obligations.TapWindowAndStationSilenceExpire : Prop :=
  ∀ s : State, s.resetLow = false →
    let st := s.tap.station
    (st.tapTimer = none → exec .tapWindowExpiry s = .next s)
      ∧ (st.tapTimer.isSome = true →
        (∀ g : Grant, st.state = .granted → st.grant = some g →
            exec .tapWindowExpiry s = .next (arbitrated (withdrawn s g .tapLapsed)))
          ∧ (st.state = .pouring →
            exec .tapWindowExpiry s = .next (s.setStation { st with overdue := true, tapTimer := none })))
      ∧ (s.tap.silenceTimer = none → exec .stationSilenceExpiry s = .next s)
      ∧ (s.tap.silenceTimer.isSome = true → exec .stationSilenceExpiry s = .next
        { s with tap := { s.tap with
            silenceTimer := none
            station := { st with quiet := true, silent := st.silent || decide (st.state ≠ .free) } } })

/-! ### What every step keeps -/

/-- Queues, logs, histories and charge lists stay within their bounds, and the tap queue names no furnace twice (R25, R38, R63,
R136, R157, R163). -/
def Obligations.StepKeepsCollectionsBounded : Prop := ∀ s t : State, Bounded s → step s = .next t → Bounded t

/-- The records of open heats stay sound: the mass account, OVERFILL, hold mode, directed hold and hold-interval timer by stage, M_r
and the valid flag by stage (R24, R28 to R32, R41, R45, R54). -/
def Obligations.StepKeepsHeatRecordsSound : Prop :=
  ∀ s t : State, HeatsSound s → TapSound s → step s = .next t → HeatsSound t

/-- The allocation in force of a configured furnace stays at or below its cap, and a furnace that is not configured has none
(R79, R85, R90, R98). The heats in BOOST never pass the boost limit in force, across swaps of the limit too (R54, R60). -/
def Obligations.StepKeepsAllocationsAndBoostWithinLimits : Prop :=
  (∀ s t : State, PowerSound s → step s = .next t → PowerSound t) ∧ ∀ s t : State, BoostSound s → step s = .next t → BoostSound t

/-- At most one furnace holds the pour station, its heat is the one in TAPPING, and every queue entry names the open heat of a
furnace without the grant (R34, R136, R139). -/
def Obligations.StepKeepsTapStateSound : Prop := ∀ s t : State, TapSound s → step s = .next t → TapSound t

/-- An open heat always has its furnace configured and a present programme entry, whatever tables are swapped (R14); the moving marks
stay as isMoving reads R14 (the model's choice, log 22). -/
def Obligations.StepKeepsOpenHeatsConfigured : Prop := ∀ s t : State, ConfigSound s → step s = .next t → ConfigSound t

/-- Every entry in force, and every entry that a pending swap will put in force, always lies within R3 to R9 (R11; on this log 10
relies), and the banks in force always fit each other: the floors of every present unit are within its rating (R8), no unit stands
at the part's address or at another unit's, no output and no channel is named twice (R3, R4, R5, R7). -/
def Obligations.StepKeepsTablesWithinTheirRanges : Prop := ∀ s t : State, TablesSound s → step s = .next t → TablesSound t

/-- The shop-stop latch is set, with PIN among its causes, whenever ESTOP_N is asserted (R124). Every permit is always the one that
latched cuts and ACTIVE SHED records give (R122); an absent furnace keeps its permit, CUT exactly while its latched cut is set
(log 8). -/
def Obligations.StepKeepsLatchUnderEstopAndPermitsDerived : Prop :=
  (∀ s t : State, EstopSound s → step s = .next t → EstopSound t) ∧ ∀ s t : State, PermitsSound s → step s = .next t → PermitsSound t

/-- The part's own control symbols, on each port (R151, R152, R157): one waits only while a frame is being sent, hold sent is set
exactly when HOLD is the last of those sent and waiting, and HOLD and GO alternate. Hold sent counts a symbol from the test that
made it, though it may still wait (the model's reading, log 33). -/
def Obligations.StepKeepsControlSymbolsInGaps : Prop := ∀ s t : State, LineSound s → step s = .next t → LineSound t
end

