-- ==== Sys2Proof/Laws/State.lean ====
section
/-! SUPPORT. What each write of a record changes: one lemma per field of State and per write, and the reads the blocks make. -/

namespace Sys2Proof.Machine

/-! ### setHeat -/

@[simp] theorem setHeat_clock (s : State) (f : Furnace) (h : Option Heat) : (s.setHeat f h).clock = s.clock := rfl
@[simp] theorem setHeat_resetLow (s : State) (f : Furnace) (h : Option Heat) : (s.setHeat f h).resetLow = s.resetLow := rfl
@[simp] theorem setHeat_estopAsserted (s : State) (f : Furnace) (h : Option Heat) : (s.setHeat f h).estopAsserted = s.estopAsserted := rfl
@[simp] theorem setHeat_store (s : State) (f : Furnace) (h : Option Heat) : (s.setHeat f h).store = s.store := rfl
@[simp] theorem setHeat_gov (s : State) (f : Furnace) (h : Option Heat) : (s.setHeat f h).gov = s.gov := rfl
@[simp] theorem setHeat_cool (s : State) (f : Furnace) (h : Option Heat) : (s.setHeat f h).cool = s.cool := rfl
@[simp] theorem setHeat_trip (s : State) (f : Furnace) (h : Option Heat) : (s.setHeat f h).trip = s.trip := rfl
@[simp] theorem setHeat_tap (s : State) (f : Furnace) (h : Option Heat) : (s.setHeat f h).tap = s.tap := rfl
@[simp] theorem setHeat_link (s : State) (f : Furnace) (h : Option Heat) : (s.setHeat f h).link = s.link := rfl
@[simp] theorem setHeat_resp (s : State) (f : Furnace) (h : Option Heat) : (s.setHeat f h).resp = s.resp := rfl
@[simp] theorem setHeat_pending (s : State) (f : Furnace) (h : Option Heat) : (s.setHeat f h).pending = s.pending := rfl
@[simp] theorem setHeat_heat_dipWindows (s : State) (f : Furnace) (h : Option Heat) : (s.setHeat f h).heat.dipWindows = s.heat.dipWindows := rfl
@[simp] theorem setHeat_heat_closedLog (s : State) (f : Furnace) (h : Option Heat) : (s.setHeat f h).heat.closedLog = s.heat.closedLog := rfl
@[simp] theorem setHeat_heat_nextHeatId (s : State) (f : Furnace) (h : Option Heat) : (s.setHeat f h).heat.nextHeatId = s.heat.nextHeatId := rfl
@[simp] theorem setHeat_heat_dipInvalid (s : State) (f : Furnace) (h : Option Heat) : (s.setHeat f h).heat.dipInvalid = s.heat.dipInvalid := rfl
@[simp] theorem setHeat_heat_dipUnmatched (s : State) (f : Furnace) (h : Option Heat) : (s.setHeat f h).heat.dipUnmatched = s.heat.dipUnmatched := rfl
@[simp] theorem setHeat_heat_integrationTimers (s : State) (f : Furnace) (h : Option Heat) : (s.setHeat f h).heat.integrationTimers = s.heat.integrationTimers := rfl

/-! ### modifyHeat -/

@[simp] theorem modifyHeat_clock (s : State) (f : Furnace) (g : Heat → Heat) : (s.modifyHeat f g).clock = s.clock := rfl
@[simp] theorem modifyHeat_resetLow (s : State) (f : Furnace) (g : Heat → Heat) : (s.modifyHeat f g).resetLow = s.resetLow := rfl
@[simp] theorem modifyHeat_estopAsserted (s : State) (f : Furnace) (g : Heat → Heat) : (s.modifyHeat f g).estopAsserted = s.estopAsserted := rfl
@[simp] theorem modifyHeat_store (s : State) (f : Furnace) (g : Heat → Heat) : (s.modifyHeat f g).store = s.store := rfl
@[simp] theorem modifyHeat_gov (s : State) (f : Furnace) (g : Heat → Heat) : (s.modifyHeat f g).gov = s.gov := rfl
@[simp] theorem modifyHeat_cool (s : State) (f : Furnace) (g : Heat → Heat) : (s.modifyHeat f g).cool = s.cool := rfl
@[simp] theorem modifyHeat_trip (s : State) (f : Furnace) (g : Heat → Heat) : (s.modifyHeat f g).trip = s.trip := rfl
@[simp] theorem modifyHeat_tap (s : State) (f : Furnace) (g : Heat → Heat) : (s.modifyHeat f g).tap = s.tap := rfl
@[simp] theorem modifyHeat_link (s : State) (f : Furnace) (g : Heat → Heat) : (s.modifyHeat f g).link = s.link := rfl
@[simp] theorem modifyHeat_resp (s : State) (f : Furnace) (g : Heat → Heat) : (s.modifyHeat f g).resp = s.resp := rfl
@[simp] theorem modifyHeat_pending (s : State) (f : Furnace) (g : Heat → Heat) : (s.modifyHeat f g).pending = s.pending := rfl
@[simp] theorem modifyHeat_heat_dipWindows (s : State) (f : Furnace) (g : Heat → Heat) : (s.modifyHeat f g).heat.dipWindows = s.heat.dipWindows := rfl
@[simp] theorem modifyHeat_heat_closedLog (s : State) (f : Furnace) (g : Heat → Heat) : (s.modifyHeat f g).heat.closedLog = s.heat.closedLog := rfl
@[simp] theorem modifyHeat_heat_nextHeatId (s : State) (f : Furnace) (g : Heat → Heat) : (s.modifyHeat f g).heat.nextHeatId = s.heat.nextHeatId := rfl
@[simp] theorem modifyHeat_heat_dipInvalid (s : State) (f : Furnace) (g : Heat → Heat) : (s.modifyHeat f g).heat.dipInvalid = s.heat.dipInvalid := rfl
@[simp] theorem modifyHeat_heat_dipUnmatched (s : State) (f : Furnace) (g : Heat → Heat) : (s.modifyHeat f g).heat.dipUnmatched = s.heat.dipUnmatched := rfl
@[simp] theorem modifyHeat_heat_integrationTimers (s : State) (f : Furnace) (g : Heat → Heat) : (s.modifyHeat f g).heat.integrationTimers = s.heat.integrationTimers := rfl

/-! ### mapHeats -/

@[simp] theorem mapHeats_clock (s : State) (g : Furnace → Heat → Heat) : (s.mapHeats g).clock = s.clock := rfl
@[simp] theorem mapHeats_resetLow (s : State) (g : Furnace → Heat → Heat) : (s.mapHeats g).resetLow = s.resetLow := rfl
@[simp] theorem mapHeats_estopAsserted (s : State) (g : Furnace → Heat → Heat) : (s.mapHeats g).estopAsserted = s.estopAsserted := rfl
@[simp] theorem mapHeats_store (s : State) (g : Furnace → Heat → Heat) : (s.mapHeats g).store = s.store := rfl
@[simp] theorem mapHeats_gov (s : State) (g : Furnace → Heat → Heat) : (s.mapHeats g).gov = s.gov := rfl
@[simp] theorem mapHeats_cool (s : State) (g : Furnace → Heat → Heat) : (s.mapHeats g).cool = s.cool := rfl
@[simp] theorem mapHeats_trip (s : State) (g : Furnace → Heat → Heat) : (s.mapHeats g).trip = s.trip := rfl
@[simp] theorem mapHeats_tap (s : State) (g : Furnace → Heat → Heat) : (s.mapHeats g).tap = s.tap := rfl
@[simp] theorem mapHeats_link (s : State) (g : Furnace → Heat → Heat) : (s.mapHeats g).link = s.link := rfl
@[simp] theorem mapHeats_resp (s : State) (g : Furnace → Heat → Heat) : (s.mapHeats g).resp = s.resp := rfl
@[simp] theorem mapHeats_pending (s : State) (g : Furnace → Heat → Heat) : (s.mapHeats g).pending = s.pending := rfl
@[simp] theorem mapHeats_heat_dipWindows (s : State) (g : Furnace → Heat → Heat) : (s.mapHeats g).heat.dipWindows = s.heat.dipWindows := rfl
@[simp] theorem mapHeats_heat_closedLog (s : State) (g : Furnace → Heat → Heat) : (s.mapHeats g).heat.closedLog = s.heat.closedLog := rfl
@[simp] theorem mapHeats_heat_nextHeatId (s : State) (g : Furnace → Heat → Heat) : (s.mapHeats g).heat.nextHeatId = s.heat.nextHeatId := rfl
@[simp] theorem mapHeats_heat_dipInvalid (s : State) (g : Furnace → Heat → Heat) : (s.mapHeats g).heat.dipInvalid = s.heat.dipInvalid := rfl
@[simp] theorem mapHeats_heat_dipUnmatched (s : State) (g : Furnace → Heat → Heat) : (s.mapHeats g).heat.dipUnmatched = s.heat.dipUnmatched := rfl
@[simp] theorem mapHeats_heat_integrationTimers (s : State) (g : Furnace → Heat → Heat) : (s.mapHeats g).heat.integrationTimers = s.heat.integrationTimers := rfl

/-! ### setDipWindow -/

@[simp] theorem setDipWindow_clock (s : State) (f : Furnace) (t : Option Timer) : (s.setDipWindow f t).clock = s.clock := rfl
@[simp] theorem setDipWindow_resetLow (s : State) (f : Furnace) (t : Option Timer) : (s.setDipWindow f t).resetLow = s.resetLow := rfl
@[simp] theorem setDipWindow_estopAsserted (s : State) (f : Furnace) (t : Option Timer) : (s.setDipWindow f t).estopAsserted = s.estopAsserted := rfl
@[simp] theorem setDipWindow_store (s : State) (f : Furnace) (t : Option Timer) : (s.setDipWindow f t).store = s.store := rfl
@[simp] theorem setDipWindow_gov (s : State) (f : Furnace) (t : Option Timer) : (s.setDipWindow f t).gov = s.gov := rfl
@[simp] theorem setDipWindow_cool (s : State) (f : Furnace) (t : Option Timer) : (s.setDipWindow f t).cool = s.cool := rfl
@[simp] theorem setDipWindow_trip (s : State) (f : Furnace) (t : Option Timer) : (s.setDipWindow f t).trip = s.trip := rfl
@[simp] theorem setDipWindow_tap (s : State) (f : Furnace) (t : Option Timer) : (s.setDipWindow f t).tap = s.tap := rfl
@[simp] theorem setDipWindow_link (s : State) (f : Furnace) (t : Option Timer) : (s.setDipWindow f t).link = s.link := rfl
@[simp] theorem setDipWindow_resp (s : State) (f : Furnace) (t : Option Timer) : (s.setDipWindow f t).resp = s.resp := rfl
@[simp] theorem setDipWindow_pending (s : State) (f : Furnace) (t : Option Timer) : (s.setDipWindow f t).pending = s.pending := rfl
@[simp] theorem setDipWindow_heat_heats (s : State) (f : Furnace) (t : Option Timer) : (s.setDipWindow f t).heat.heats = s.heat.heats := rfl
@[simp] theorem setDipWindow_heat_closedLog (s : State) (f : Furnace) (t : Option Timer) : (s.setDipWindow f t).heat.closedLog = s.heat.closedLog := rfl
@[simp] theorem setDipWindow_heat_nextHeatId (s : State) (f : Furnace) (t : Option Timer) : (s.setDipWindow f t).heat.nextHeatId = s.heat.nextHeatId := rfl
@[simp] theorem setDipWindow_heat_dipInvalid (s : State) (f : Furnace) (t : Option Timer) : (s.setDipWindow f t).heat.dipInvalid = s.heat.dipInvalid := rfl
@[simp] theorem setDipWindow_heat_dipUnmatched (s : State) (f : Furnace) (t : Option Timer) : (s.setDipWindow f t).heat.dipUnmatched = s.heat.dipUnmatched := rfl
@[simp] theorem setDipWindow_heat_integrationTimers (s : State) (f : Furnace) (t : Option Timer) : (s.setDipWindow f t).heat.integrationTimers = s.heat.integrationTimers := rfl

/-! ### setPower -/

@[simp] theorem setPower_clock (s : State) (f : Furnace) (p : FurnacePower) : (s.setPower f p).clock = s.clock := rfl
@[simp] theorem setPower_resetLow (s : State) (f : Furnace) (p : FurnacePower) : (s.setPower f p).resetLow = s.resetLow := rfl
@[simp] theorem setPower_estopAsserted (s : State) (f : Furnace) (p : FurnacePower) : (s.setPower f p).estopAsserted = s.estopAsserted := rfl
@[simp] theorem setPower_store (s : State) (f : Furnace) (p : FurnacePower) : (s.setPower f p).store = s.store := rfl
@[simp] theorem setPower_heat (s : State) (f : Furnace) (p : FurnacePower) : (s.setPower f p).heat = s.heat := rfl
@[simp] theorem setPower_cool (s : State) (f : Furnace) (p : FurnacePower) : (s.setPower f p).cool = s.cool := rfl
@[simp] theorem setPower_trip (s : State) (f : Furnace) (p : FurnacePower) : (s.setPower f p).trip = s.trip := rfl
@[simp] theorem setPower_tap (s : State) (f : Furnace) (p : FurnacePower) : (s.setPower f p).tap = s.tap := rfl
@[simp] theorem setPower_link (s : State) (f : Furnace) (p : FurnacePower) : (s.setPower f p).link = s.link := rfl
@[simp] theorem setPower_resp (s : State) (f : Furnace) (p : FurnacePower) : (s.setPower f p).resp = s.resp := rfl
@[simp] theorem setPower_pending (s : State) (f : Furnace) (p : FurnacePower) : (s.setPower f p).pending = s.pending := rfl
@[simp] theorem setPower_gov_window (s : State) (f : Furnace) (p : FurnacePower) : (s.setPower f p).gov.window = s.gov.window := rfl
@[simp] theorem setPower_gov_history (s : State) (f : Furnace) (p : FurnacePower) : (s.setPower f p).gov.history = s.gov.history := rfl
@[simp] theorem setPower_gov_allowance (s : State) (f : Furnace) (p : FurnacePower) : (s.setPower f p).gov.allowance = s.gov.allowance := rfl
@[simp] theorem setPower_gov_allocationTimer (s : State) (f : Furnace) (p : FurnacePower) : (s.setPower f p).gov.allocationTimer = s.gov.allocationTimer := rfl
@[simp] theorem setPower_gov_plantSilence (s : State) (f : Furnace) (p : FurnacePower) : (s.setPower f p).gov.plantSilence = s.gov.plantSilence := rfl

/-! ### mapPowers -/

@[simp] theorem mapPowers_clock (s : State) (g : Furnace → FurnacePower → FurnacePower) : (s.mapPowers g).clock = s.clock := rfl
@[simp] theorem mapPowers_resetLow (s : State) (g : Furnace → FurnacePower → FurnacePower) : (s.mapPowers g).resetLow = s.resetLow := rfl
@[simp] theorem mapPowers_estopAsserted (s : State) (g : Furnace → FurnacePower → FurnacePower) : (s.mapPowers g).estopAsserted = s.estopAsserted := rfl
@[simp] theorem mapPowers_store (s : State) (g : Furnace → FurnacePower → FurnacePower) : (s.mapPowers g).store = s.store := rfl
@[simp] theorem mapPowers_heat (s : State) (g : Furnace → FurnacePower → FurnacePower) : (s.mapPowers g).heat = s.heat := rfl
@[simp] theorem mapPowers_cool (s : State) (g : Furnace → FurnacePower → FurnacePower) : (s.mapPowers g).cool = s.cool := rfl
@[simp] theorem mapPowers_trip (s : State) (g : Furnace → FurnacePower → FurnacePower) : (s.mapPowers g).trip = s.trip := rfl
@[simp] theorem mapPowers_tap (s : State) (g : Furnace → FurnacePower → FurnacePower) : (s.mapPowers g).tap = s.tap := rfl
@[simp] theorem mapPowers_link (s : State) (g : Furnace → FurnacePower → FurnacePower) : (s.mapPowers g).link = s.link := rfl
@[simp] theorem mapPowers_resp (s : State) (g : Furnace → FurnacePower → FurnacePower) : (s.mapPowers g).resp = s.resp := rfl
@[simp] theorem mapPowers_pending (s : State) (g : Furnace → FurnacePower → FurnacePower) : (s.mapPowers g).pending = s.pending := rfl
@[simp] theorem mapPowers_gov_window (s : State) (g : Furnace → FurnacePower → FurnacePower) : (s.mapPowers g).gov.window = s.gov.window := rfl
@[simp] theorem mapPowers_gov_history (s : State) (g : Furnace → FurnacePower → FurnacePower) : (s.mapPowers g).gov.history = s.gov.history := rfl
@[simp] theorem mapPowers_gov_allowance (s : State) (g : Furnace → FurnacePower → FurnacePower) : (s.mapPowers g).gov.allowance = s.gov.allowance := rfl
@[simp] theorem mapPowers_gov_allocationTimer (s : State) (g : Furnace → FurnacePower → FurnacePower) : (s.mapPowers g).gov.allocationTimer = s.gov.allocationTimer := rfl
@[simp] theorem mapPowers_gov_plantSilence (s : State) (g : Furnace → FurnacePower → FurnacePower) : (s.mapPowers g).gov.plantSilence = s.gov.plantSilence := rfl

/-! ### setWindow -/

@[simp] theorem setWindow_clock (s : State) (w : WindowRecord) : (s.setWindow w).clock = s.clock := rfl
@[simp] theorem setWindow_resetLow (s : State) (w : WindowRecord) : (s.setWindow w).resetLow = s.resetLow := rfl
@[simp] theorem setWindow_estopAsserted (s : State) (w : WindowRecord) : (s.setWindow w).estopAsserted = s.estopAsserted := rfl
@[simp] theorem setWindow_store (s : State) (w : WindowRecord) : (s.setWindow w).store = s.store := rfl
@[simp] theorem setWindow_heat (s : State) (w : WindowRecord) : (s.setWindow w).heat = s.heat := rfl
@[simp] theorem setWindow_cool (s : State) (w : WindowRecord) : (s.setWindow w).cool = s.cool := rfl
@[simp] theorem setWindow_trip (s : State) (w : WindowRecord) : (s.setWindow w).trip = s.trip := rfl
@[simp] theorem setWindow_tap (s : State) (w : WindowRecord) : (s.setWindow w).tap = s.tap := rfl
@[simp] theorem setWindow_link (s : State) (w : WindowRecord) : (s.setWindow w).link = s.link := rfl
@[simp] theorem setWindow_resp (s : State) (w : WindowRecord) : (s.setWindow w).resp = s.resp := rfl
@[simp] theorem setWindow_pending (s : State) (w : WindowRecord) : (s.setWindow w).pending = s.pending := rfl
@[simp] theorem setWindow_gov_history (s : State) (w : WindowRecord) : (s.setWindow w).gov.history = s.gov.history := rfl
@[simp] theorem setWindow_gov_allowance (s : State) (w : WindowRecord) : (s.setWindow w).gov.allowance = s.gov.allowance := rfl
@[simp] theorem setWindow_gov_furnaces (s : State) (w : WindowRecord) : (s.setWindow w).gov.furnaces = s.gov.furnaces := rfl
@[simp] theorem setWindow_gov_allocationTimer (s : State) (w : WindowRecord) : (s.setWindow w).gov.allocationTimer = s.gov.allocationTimer := rfl
@[simp] theorem setWindow_gov_plantSilence (s : State) (w : WindowRecord) : (s.setWindow w).gov.plantSilence = s.gov.plantSilence := rfl

/-! ### setStation -/

@[simp] theorem setStation_clock (s : State) (x : Station) : (s.setStation x).clock = s.clock := rfl
@[simp] theorem setStation_resetLow (s : State) (x : Station) : (s.setStation x).resetLow = s.resetLow := rfl
@[simp] theorem setStation_estopAsserted (s : State) (x : Station) : (s.setStation x).estopAsserted = s.estopAsserted := rfl
@[simp] theorem setStation_store (s : State) (x : Station) : (s.setStation x).store = s.store := rfl
@[simp] theorem setStation_heat (s : State) (x : Station) : (s.setStation x).heat = s.heat := rfl
@[simp] theorem setStation_gov (s : State) (x : Station) : (s.setStation x).gov = s.gov := rfl
@[simp] theorem setStation_cool (s : State) (x : Station) : (s.setStation x).cool = s.cool := rfl
@[simp] theorem setStation_trip (s : State) (x : Station) : (s.setStation x).trip = s.trip := rfl
@[simp] theorem setStation_link (s : State) (x : Station) : (s.setStation x).link = s.link := rfl
@[simp] theorem setStation_resp (s : State) (x : Station) : (s.setStation x).resp = s.resp := rfl
@[simp] theorem setStation_pending (s : State) (x : Station) : (s.setStation x).pending = s.pending := rfl
@[simp] theorem setStation_tap_readiness (s : State) (x : Station) : (s.setStation x).tap.readiness = s.tap.readiness := rfl
@[simp] theorem setStation_tap_queue (s : State) (x : Station) : (s.setStation x).tap.queue = s.tap.queue := rfl
@[simp] theorem setStation_tap_tiltHolding (s : State) (x : Station) : (s.setStation x).tap.tiltHolding = s.tap.tiltHolding := rfl
@[simp] theorem setStation_tap_pourInvalid (s : State) (x : Station) : (s.setStation x).tap.pourInvalid = s.tap.pourInvalid := rfl
@[simp] theorem setStation_tap_readinessTimer (s : State) (x : Station) : (s.setStation x).tap.readinessTimer = s.tap.readinessTimer := rfl
@[simp] theorem setStation_tap_silenceTimer (s : State) (x : Station) : (s.setStation x).tap.silenceTimer = s.tap.silenceTimer := rfl

/-! ### setPort and setQueueTo -/

@[simp] theorem setPort_clock (s : State) (p : Port) (x : PortState) : (s.setPort p x).clock = s.clock := by cases p <;> rfl
@[simp] theorem setPort_resetLow (s : State) (p : Port) (x : PortState) : (s.setPort p x).resetLow = s.resetLow := by cases p <;> rfl
@[simp] theorem setPort_estopAsserted (s : State) (p : Port) (x : PortState) : (s.setPort p x).estopAsserted = s.estopAsserted := by cases p <;> rfl
@[simp] theorem setPort_store (s : State) (p : Port) (x : PortState) : (s.setPort p x).store = s.store := by cases p <;> rfl
@[simp] theorem setPort_heat (s : State) (p : Port) (x : PortState) : (s.setPort p x).heat = s.heat := by cases p <;> rfl
@[simp] theorem setPort_gov (s : State) (p : Port) (x : PortState) : (s.setPort p x).gov = s.gov := by cases p <;> rfl
@[simp] theorem setPort_cool (s : State) (p : Port) (x : PortState) : (s.setPort p x).cool = s.cool := by cases p <;> rfl
@[simp] theorem setPort_trip (s : State) (p : Port) (x : PortState) : (s.setPort p x).trip = s.trip := by cases p <;> rfl
@[simp] theorem setPort_tap (s : State) (p : Port) (x : PortState) : (s.setPort p x).tap = s.tap := by cases p <;> rfl
@[simp] theorem setPort_resp (s : State) (p : Port) (x : PortState) : (s.setPort p x).resp = s.resp := by cases p <;> rfl
@[simp] theorem setPort_pending (s : State) (p : Port) (x : PortState) : (s.setPort p x).pending = s.pending := by cases p <;> rfl
@[simp] theorem setQueueTo_clock (s : State) (p : Port) (q : List Frame) : (s.setQueueTo p q).clock = s.clock := by cases p <;> rfl
@[simp] theorem setQueueTo_resetLow (s : State) (p : Port) (q : List Frame) : (s.setQueueTo p q).resetLow = s.resetLow := by cases p <;> rfl
@[simp] theorem setQueueTo_estopAsserted (s : State) (p : Port) (q : List Frame) : (s.setQueueTo p q).estopAsserted = s.estopAsserted := by cases p <;> rfl
@[simp] theorem setQueueTo_store (s : State) (p : Port) (q : List Frame) : (s.setQueueTo p q).store = s.store := by cases p <;> rfl
@[simp] theorem setQueueTo_heat (s : State) (p : Port) (q : List Frame) : (s.setQueueTo p q).heat = s.heat := by cases p <;> rfl
@[simp] theorem setQueueTo_gov (s : State) (p : Port) (q : List Frame) : (s.setQueueTo p q).gov = s.gov := by cases p <;> rfl
@[simp] theorem setQueueTo_cool (s : State) (p : Port) (q : List Frame) : (s.setQueueTo p q).cool = s.cool := by cases p <;> rfl
@[simp] theorem setQueueTo_trip (s : State) (p : Port) (q : List Frame) : (s.setQueueTo p q).trip = s.trip := by cases p <;> rfl
@[simp] theorem setQueueTo_tap (s : State) (p : Port) (q : List Frame) : (s.setQueueTo p q).tap = s.tap := by cases p <;> rfl
@[simp] theorem setQueueTo_resp (s : State) (p : Port) (q : List Frame) : (s.setQueueTo p q).resp = s.resp := by cases p <;> rfl
@[simp] theorem setQueueTo_pending (s : State) (p : Port) (q : List Frame) : (s.setQueueTo p q).pending = s.pending := by cases p <;> rfl

@[simp] theorem setPort_link_toField (s : State) (p : Port) (x : PortState) : (s.setPort p x).link.toField = s.link.toField := by
  cases p <;> rfl
@[simp] theorem setPort_link_toPlant (s : State) (p : Port) (x : PortState) : (s.setPort p x).link.toPlant = s.link.toPlant := by
  cases p <;> rfl
@[simp] theorem setQueueTo_link_plant (s : State) (p : Port) (q : List Frame) : (s.setQueueTo p q).link.plant = s.link.plant := by
  cases p <;> rfl
@[simp] theorem setQueueTo_link_field (s : State) (p : Port) (q : List Frame) : (s.setQueueTo p q).link.field = s.link.field := by
  cases p <;> rfl
@[simp] theorem queueTo_setPort (s : State) (p q : Port) (x : PortState) : (s.setPort p x).queueTo q = s.queueTo q := by
  cases p <;> rfl
@[simp] theorem port_setQueueTo (s : State) (p q : Port) (l : List Frame) : (s.setQueueTo p l).port q = s.port q := by
  cases p <;> cases q <;> rfl
@[simp] theorem port_setPort_same (s : State) (p : Port) (x : PortState) : (s.setPort p x).port p = x := by cases p <;> rfl
@[simp] theorem port_setPort_other (s : State) (p : Port) (x : PortState) : (s.setPort p x).port p.other = s.port p.other := by
  cases p <;> rfl
@[simp] theorem port_setPort_plant_field (s : State) (x : PortState) : (s.setPort .plant x).port .field = s.port .field := rfl
@[simp] theorem port_setPort_field_plant (s : State) (x : PortState) : (s.setPort .field x).port .plant = s.port .plant := rfl
@[simp] theorem queueTo_setQueueTo_same (s : State) (p : Port) (q : List Frame) : (s.setQueueTo p q).queueTo p = q := by
  cases p <;> rfl
@[simp] theorem queueTo_setQueueTo_other (s : State) (p : Port) (q : List Frame) :
    (s.setQueueTo p q).queueTo p.other = s.queueTo p.other := by cases p <;> rfl
@[simp] theorem setPort_setPort (s : State) (p : Port) (x y : PortState) : (s.setPort p x).setPort p y = s.setPort p y := by
  cases p <;> rfl
@[simp] theorem setPort_port (s : State) (p : Port) : s.setPort p (s.port p) = s := by cases p <;> rfl
@[simp] theorem Port.other_other (p : Port) : p.other.other = p := by cases p <;> rfl

/-! ### Fixed collections -/

@[simp] theorem mapEach_get {α β : Type} {n : Nat} (v : Vector α n) (g : Fin n → α → β) (i : Fin n) :
    (mapEach v g)[i] = g i v[i] := by simp [mapEach]

theorem vector_ext {α : Type} {n : Nat} {v w : Vector α n} (h : ∀ i : Fin n, v[i] = w[i]) : v = w :=
  Vector.ext fun i hi => h ⟨i, hi⟩

@[simp] theorem set_get_same {α : Type} {n : Nat} (v : Vector α n) (i : Fin n) (x : α) : (v.set i x)[i] = x := by simp

theorem set_get_other {α : Type} {n : Nat} (v : Vector α n) (i j : Fin n) (x : α) (h : j ≠ i) : (v.set i x)[j] = v[j] := by
  have : (i : Nat) ≠ j := fun e => h (Fin.ext e.symm)
  simp [this]

theorem set_get {α : Type} {n : Nat} (v : Vector α n) (i j : Fin n) (x : α) :
    (v.set i x)[j] = if j = i then x else v[j] := by
  by_cases h : j = i
  · subst h; simp
  · simp [h, set_get_other v i j x h]

@[simp] theorem set_get_self {α : Type} {n : Nat} (v : Vector α n) (i : Fin n) : v.set i v[i] = v := by
  apply vector_ext; intro j; rw [set_get]; split
  · next h => subst h; rfl
  · rfl

@[simp] theorem modifyAt_get_same {α : Type} {n : Nat} (v : Vector α n) (i : Fin n) (g : α → α) : (modifyAt v i g)[i] = g v[i] := by
  simp [modifyAt]

theorem modifyAt_get {α : Type} {n : Nat} (v : Vector α n) (i j : Fin n) (g : α → α) :
    (modifyAt v i g)[j] = if j = i then g v[i] else v[j] := by simp only [modifyAt, set_get]

/-! ### Heats, powers, dip windows -/

theorem heatOf_setHeat (s : State) (f g : Furnace) (h : Option Heat) :
    (s.setHeat f h).heatOf g = if g = f then h else s.heatOf g := by simp only [State.heatOf, State.setHeat, set_get]

@[simp] theorem heatOf_setHeat_same (s : State) (f : Furnace) (h : Option Heat) : (s.setHeat f h).heatOf f = h := by
  simp [heatOf_setHeat]

theorem heatOf_modifyHeat (s : State) (f g : Furnace) (k : Heat → Heat) :
    (s.modifyHeat f k).heatOf g = if g = f then (s.heatOf f).map k else s.heatOf g := by simp only [State.modifyHeat, heatOf_setHeat]

@[simp] theorem heatOf_mapHeats (s : State) (k : Furnace → Heat → Heat) (g : Furnace) :
    (s.mapHeats k).heatOf g = (s.heatOf g).map (k g) := by simp only [State.heatOf, State.mapHeats, mapEach_get]

@[simp] theorem heatOf_setPower (s : State) (f g : Furnace) (p : FurnacePower) : (s.setPower f p).heatOf g = s.heatOf g := rfl
@[simp] theorem heatOf_mapPowers (s : State) (k : Furnace → FurnacePower → FurnacePower) (g : Furnace) :
    (s.mapPowers k).heatOf g = s.heatOf g := rfl
@[simp] theorem heatOf_setDipWindow (s : State) (f g : Furnace) (t : Option Timer) : (s.setDipWindow f t).heatOf g = s.heatOf g := rfl
@[simp] theorem heatOf_setStation (s : State) (x : Station) (g : Furnace) : (s.setStation x).heatOf g = s.heatOf g := rfl
@[simp] theorem heatOf_setPort (s : State) (p : Port) (x : PortState) (g : Furnace) : (s.setPort p x).heatOf g = s.heatOf g := by
  cases p <;> rfl

theorem powerOf_setPower (s : State) (f g : Furnace) (p : FurnacePower) :
    (s.setPower f p).powerOf g = if g = f then p else s.powerOf g := by simp only [State.powerOf, State.setPower, set_get]

@[simp] theorem powerOf_setPower_same (s : State) (f : Furnace) (p : FurnacePower) : (s.setPower f p).powerOf f = p := by
  simp [powerOf_setPower]

@[simp] theorem powerOf_mapPowers (s : State) (k : Furnace → FurnacePower → FurnacePower) (g : Furnace) :
    (s.mapPowers k).powerOf g = k g (s.powerOf g) := by simp only [State.powerOf, State.mapPowers, mapEach_get]

@[simp] theorem powerOf_setHeat (s : State) (f g : Furnace) (h : Option Heat) : (s.setHeat f h).powerOf g = s.powerOf g := rfl
@[simp] theorem powerOf_modifyHeat (s : State) (f g : Furnace) (k : Heat → Heat) : (s.modifyHeat f k).powerOf g = s.powerOf g := rfl
@[simp] theorem powerOf_mapHeats (s : State) (k : Furnace → Heat → Heat) (g : Furnace) : (s.mapHeats k).powerOf g = s.powerOf g := rfl
@[simp] theorem powerOf_setDipWindow (s : State) (f g : Furnace) (t : Option Timer) :
    (s.setDipWindow f t).powerOf g = s.powerOf g := rfl
@[simp] theorem powerOf_setStation (s : State) (x : Station) (g : Furnace) : (s.setStation x).powerOf g = s.powerOf g := rfl
@[simp] theorem powerOf_setPort (s : State) (p : Port) (x : PortState) (g : Furnace) :
    (s.setPort p x).powerOf g = s.powerOf g := by cases p <;> rfl

theorem dipWindow_setDipWindow (s : State) (f g : Furnace) (t : Option Timer) :
    (s.setDipWindow f t).dipWindow g = if g = f then t else s.dipWindow g := by
  simp only [State.dipWindow, State.setDipWindow, set_get]

@[simp] theorem dipWindow_setHeat (s : State) (f g : Furnace) (h : Option Heat) : (s.setHeat f h).dipWindow g = s.dipWindow g := rfl
@[simp] theorem dipWindow_modifyHeat (s : State) (f g : Furnace) (k : Heat → Heat) :
    (s.modifyHeat f k).dipWindow g = s.dipWindow g := rfl
@[simp] theorem dipWindow_setPower (s : State) (f g : Furnace) (p : FurnacePower) : (s.setPower f p).dipWindow g = s.dipWindow g := rfl

/-! ### What the tables and permits say depends on the store and the trip unit alone -/

theorem configured_of_store {s t : State} (h : t.store = s.store) (f : Furnace) : t.configured f = s.configured f := by
  simp only [State.configured, h]
theorem furnaceEntry_of_store {s t : State} (h : t.store = s.store) (f : Furnace) : t.furnaceEntry f = s.furnaceEntry f := by
  simp only [State.furnaceEntry, h]
theorem shopEntry_of_store {s t : State} (h : t.store = s.store) : t.shopEntry = s.shopEntry := by simp only [State.shopEntry, h]
theorem programmeEntry_of_store {s t : State} (h : t.store = s.store) (p : Fin 8) : t.programmeEntry p = s.programmeEntry p := by
  simp only [State.programmeEntry, h]
theorem fedBy_of_store {s t : State} (h : t.store = s.store) (n o : Byte) : t.fedBy n o = s.fedBy n o := by
  cases s; cases t; cases h; rfl
theorem permitOf_of_trip {s t : State} (h : t.trip = s.trip) (f : Furnace) : t.permitOf f = s.permitOf f := by
  simp only [State.permitOf, h]

end Sys2Proof.Machine
end

