-- ==== Sys2Proof/Laws/Line.lean ====
section
/-! SUPPORT. The control symbols that the part sends (R151, R157): the operations against the vocabulary of Safety.lean, what they
leave of a port, and that they keep a port's control symbols sound. -/

namespace Sys2Proof.Machine

/-! ### The operations -/

/-- The gap between frames, as the claims write it (R151). -/
theorem enterGap_eq (x : PortState) : x.enterGap = gapPort x := by
  unfold PortState.enterGap gapPort
  cases x.controls.getLast? <;> rfl

/-- The hold-off test, as the claims write it (R151, R157). -/
theorem holdTest_eq (x : PortState) (depth : Nat) : x.holdTest depth = holdTestedPort depth x := by
  unfold PortState.holdTest holdTestedPort controlledPort PortState.sendControl PortState.enterGap
  cases x.tx <;> simp [Config.holdDepth, Config.goDepth]

theorem holdOffTest_eq (p : Port) (s : State) :
    holdOffTest p s = s.modifyPort p.other (holdTestedPort (s.queueTo p).length) := by
  simp only [holdOffTest, holdTest_eq]

/-- A control symbol changes nothing of a port but the symbols that wait and the one sent last (R151). -/
theorem sendControl_frame (x : PortState) (c : Control) :
    x.sendControl c = { x with controls := (x.sendControl c).controls, controlSent := (x.sendControl c).controlSent } := by
  unfold PortState.sendControl PortState.enterGap
  cases x.tx <;> simp

/-- The hold-off test changes hold sent and the control symbols alone (R157). -/
theorem holdTest_frame (x : PortState) (depth : Nat) :
    x.holdTest depth =
      { x with
        holdSent := (x.holdTest depth).holdSent, controls := (x.holdTest depth).controls
        controlSent := (x.holdTest depth).controlSent } := by
  unfold PortState.holdTest
  split
  · rw [sendControl_frame]
  · split
    · rw [sendControl_frame]
    · rfl

/-- Hold sent after the test: set from 12 on, clear up to 4, and unchanged between (R157). -/
theorem holdTest_holdSent (x : PortState) (depth : Nat) :
    (x.holdTest depth).holdSent = if 12 ≤ depth then true else if depth ≤ 4 then false else x.holdSent := by
  unfold PortState.holdTest
  simp only [Config.holdDepth, Config.goDepth]
  cases h : x.holdSent <;> by_cases h12 : 12 ≤ depth <;> by_cases h4 : depth ≤ 4 <;> simp [h, h12, h4]
  omega

/-! ### Sound control symbols -/

/-- One symbol more at the end of an alternating list that does not end in it. -/
theorem alternates_concat {l : List Control} {c : Control} (h : ∀ k < l.length, l[k]? ≠ l[k + 1]?) (hc : l.getLast? ≠ some c) :
    ∀ k < (l ++ [c]).length, (l ++ [c])[k]? ≠ (l ++ [c])[k + 1]? := by
  intro k hk
  rw [List.length_append, List.length_singleton] at hk
  rcases Nat.lt_trichotomy (k + 1) l.length with g | g | g
  · rw [List.getElem?_append_left (by omega), List.getElem?_append_left g]
    exact h k (by omega)
  · rw [List.getElem?_append_left (by omega), List.getElem?_append_right (by omega), g]
    rw [List.getLast?_eq_getElem?, ← g] at hc
    simpa using hc
  · rw [List.getElem?_append_right (by omega), List.getElem?_append_right (by omega)]
    have : k - l.length = 0 := by omega
    simp [this, show k + 1 - l.length = 1 by omega]

/-- A control symbol other than the last keeps the line sound (R151, R157). -/
theorem ControlsSound.controlled {x : PortState} (h : ControlsSound x) {held : Bool} (hx : x.holdSent ≠ held) :
    ControlsSound (controlledPort held x) := by
  obtain ⟨h1, h2, h3⟩ := h
  unfold controlledPort
  dsimp only
  split
  · next ht =>
    refine ⟨fun _ => rfl, ?_, fun k hk => ?_⟩
    · cases held <;> simp
    · obtain rfl : k = 0 := by simpa using hk
      simp
  · next ht =>
    refine ⟨fun h => absurd h ht, ?_, ?_⟩
    · cases held <;> simp
    · simp only [← List.append_assoc]
      refine alternates_concat h3 fun hl => ?_
      cases held <;> simp_all

/-- The hold-off test keeps the line sound (R157). -/
theorem ControlsSound.holdTested {x : PortState} (h : ControlsSound x) (depth : Nat) : ControlsSound (holdTestedPort depth x) := by
  unfold holdTestedPort
  split
  · next g => exact h.controlled (by simp [g.2])
  · split
    · next g => exact h.controlled (by simp [g.2])
    · exact h

/-- The gap keeps the line sound (R151). -/
theorem ControlsSound.gap {x : PortState} (h : ControlsSound x) : ControlsSound (gapPort x) := by
  obtain ⟨-, h2, -⟩ := h
  unfold gapPort
  refine ⟨fun _ => rfl, ?_, ?_⟩
  · rw [h2, List.getLast?_append]
    cases hc : x.controls.getLast? <;> cases hs : x.controlSent <;> simp_all
  · intro k hk
    cases hc : x.controls.getLast? <;> cases hs : x.controlSent <;> simp_all
end Sys2Proof.Machine
end

