-- ==== Sys2Proof/Laws/Arrivals.lean ====
section
/-! SUPPORT. What the arrival of a frame or a request does before its own effect, and how the responder answers: the lemmas that
take `exec` of a request to the handler of its owning block. -/

namespace Sys2Proof.Machine

/-! ### Arrivals -/

theorem hearFrame_plant (s : State) : restartPlantSilence (hearFrame .plant s) = plantHeard s := rfl

theorem hearFrame_field (s : State) : hearFrame .field s = fieldHeard s := rfl

theorem hearFrame_port (p : Port) (s : State) : hearFrame p s = s.setPort p (arrivedPort (s.port p)) := by cases p <;> rfl

/-- A good frame of the layout that arrives on a port is disposed of after the arrival (R155, R156). -/
theorem frameArrives_fits {fr : Frame} (h : fr.payload.length ≤ 120) (p : Port) (s : State) :
    frameArrives p fr s =
      if fr.dst = s.partAddress then disposeOwn p fr (heardOn p s) else disposeCrossing p fr (heardOn p s) := by
  have : ¬ (120 < fr.payload.length) := by omega
  cases p <;> simp only [frameArrives, Config.maxPayload, this] <;> rfl

/-- An offer to a forward queue, as the claims write it (R157). -/
theorem offerForward_eq (p : Port) (fr : Frame) (s : State) : offerForward p fr s = offered p fr s := by
  simp only [offerForward, offered, holdOffTest_eq]
  cases p <;> rfl

@[simp] theorem plantHeard_store (s : State) : (plantHeard s).store = s.store := rfl
@[simp] theorem plantHeard_heat (s : State) : (plantHeard s).heat = s.heat := rfl
@[simp] theorem plantHeard_cool (s : State) : (plantHeard s).cool = s.cool := rfl
@[simp] theorem plantHeard_trip (s : State) : (plantHeard s).trip = s.trip := rfl
@[simp] theorem plantHeard_tap (s : State) : (plantHeard s).tap = s.tap := rfl
@[simp] theorem plantHeard_resp (s : State) : (plantHeard s).resp = s.resp := rfl
@[simp] theorem plantHeard_clock (s : State) : (plantHeard s).clock = s.clock := rfl
@[simp] theorem plantHeard_pending (s : State) : (plantHeard s).pending = s.pending := rfl
@[simp] theorem plantHeard_resetLow (s : State) : (plantHeard s).resetLow = s.resetLow := rfl
@[simp] theorem plantHeard_estop (s : State) : (plantHeard s).estopAsserted = s.estopAsserted := rfl
@[simp] theorem plantHeard_window (s : State) : (plantHeard s).gov.window = s.gov.window := rfl
@[simp] theorem plantHeard_furnaces (s : State) : (plantHeard s).gov.furnaces = s.gov.furnaces := rfl
@[simp] theorem plantHeard_heatOf (s : State) (f : Furnace) : (plantHeard s).heatOf f = s.heatOf f := rfl
@[simp] theorem plantHeard_powerOf (s : State) (f : Furnace) : (plantHeard s).powerOf f = s.powerOf f := rfl
@[simp] theorem plantHeard_configured (s : State) (f : Furnace) : (plantHeard s).configured f = s.configured f := rfl
@[simp] theorem plantHeard_furnaceEntry (s : State) (f : Furnace) : (plantHeard s).furnaceEntry f = s.furnaceEntry f := rfl
@[simp] theorem plantHeard_shopEntry (s : State) : (plantHeard s).shopEntry = s.shopEntry := rfl
@[simp] theorem plantHeard_programmeEntry (s : State) (p : Fin 8) : (plantHeard s).programmeEntry p = s.programmeEntry p := rfl
@[simp] theorem plantHeard_permitOf (s : State) (f : Furnace) : (plantHeard s).permitOf f = s.permitOf f := rfl
@[simp] theorem plantHeard_findingsOf (s : State) (f : Furnace) : findingsOf (plantHeard s) f = findingsOf s f := rfl
@[simp] theorem fieldHeard_store (s : State) : (fieldHeard s).store = s.store := rfl
@[simp] theorem fieldHeard_heat (s : State) : (fieldHeard s).heat = s.heat := rfl
@[simp] theorem fieldHeard_gov (s : State) : (fieldHeard s).gov = s.gov := rfl
@[simp] theorem fieldHeard_cool (s : State) : (fieldHeard s).cool = s.cool := rfl
@[simp] theorem fieldHeard_trip (s : State) : (fieldHeard s).trip = s.trip := rfl
@[simp] theorem fieldHeard_tap (s : State) : (fieldHeard s).tap = s.tap := rfl
@[simp] theorem fieldHeard_resp (s : State) : (fieldHeard s).resp = s.resp := rfl
@[simp] theorem fieldHeard_clock (s : State) : (fieldHeard s).clock = s.clock := rfl

/-! ### The responder (R162, R163, R168) -/

/-- The flags byte of an answer (R164). -/
def Answer.flags (a : Answer) : Byte :=
  BitVec.ofNat 8 (if a.status = .ok then flagBits [a.clamped, a.adjusted, a.merged] else 0)

/-- A request that the responder serves: its handler runs right after the arrival, and its answer joins the reply queue. -/
theorem requestArrives_serving {s : State} (h : Serving s) (code src tag : Byte) (k : State → Answer × State) :
    requestArrives code src tag k s =
      withReply (k (plantHeard s)).2
        (replyOf s.shopEntry.partAddress code tag src (k (plantHeard s)).1.status (k (plantHeard s)).1.flags
          (k (plantHeard s)).1.data) := by
  obtain ⟨_, h2, h3⟩ := h
  have h4 : ¬ (Config.replyCapacity ≤ s.resp.replies.length) := by simp only [Config.replyCapacity]; omega
  simp only [requestArrives, hearFrame_plant, respond, plantHeard_resp, h2, h4]
  rfl

/-- A request with room for its reply, while the warm reset is pending, only arrives (R168). -/
theorem requestArrives_pending {s : State} (h : s.resp.warmPending = true) (hq : s.resp.replies.length < 4) (code src tag : Byte)
    (k : State → Answer × State) : requestArrives code src tag k s = plantHeard s := by
  have h4 : ¬ (Config.replyCapacity ≤ s.resp.replies.length) := by simp only [Config.replyCapacity]; omega
  simp only [requestArrives, hearFrame_plant, respond, plantHeard_resp, h, h4, if_true, if_false]

/-- A request that finds the reply queue full is counted, whether or not a warm reset is pending (R162). -/
theorem requestArrives_full {s : State} (hq : 4 ≤ s.resp.replies.length) (code src tag : Byte) (k : State → Answer × State) :
    requestArrives code src tag k s =
      { plantHeard s with resp := { s.resp with replyOverflow := min 65535 (s.resp.replyOverflow + 1) } } := by
  have h4 : Config.replyCapacity ≤ s.resp.replies.length := hq
  simp only [requestArrives, hearFrame_plant, respond, plantHeard_resp, h4, if_true]
  rfl

/-- A handler that refuses answers the refusal and leaves the state of the arrival (R164). -/
theorem requestArrives_refused {s : State} (h : Serving s) {code src tag : Byte} {k : State → Answer × State} {st : Status}
    {data : List Byte} (hst : st ≠ .ok) (hk : k (plantHeard s) = refuse (plantHeard s) st data) :
    requestArrives code src tag k s = refusedWith s code tag src st data := by
  rw [requestArrives_serving h, hk]
  simp only [refuse, Answer.flags, hst, if_false]
  rfl

/-- A handler that answers OK (R162). -/
theorem requestArrives_ok {s : State} (h : Serving s) {code src tag : Byte} {k : State → Answer × State} {a : Answer}
    {g : State → State} (ha : a.status = .ok) (hk : k (plantHeard s) = (a, g (plantHeard s))) :
    requestArrives code src tag k s = answeredOk s g code tag src a.data a.flags := by
  rw [requestArrives_serving h, hk, ha]
  rfl

/-- The checks of R21, once: the refusal that applies first, or the furnace and its open heat. -/
theorem withHeat_eq (s : State) (furnace : Byte) (id : Word32) (argsOk : Bool) (k : Furnace → Heat → Answer × State) :
    withHeat s furnace id argsOk k =
      match namedHeat s furnace id argsOk with
      | .error st => refuse s st
      | .ok (f, h) => k f h := by
  unfold withHeat namedHeat
  split
  · rfl
  · cases ofNumberByte 6 furnace with
    | none => cases argsOk <;> rfl
    | some f =>
      cases argsOk with
      | false => rfl
      | true =>
        simp only [Bool.true_eq_false, if_false]
        cases s.heatOf f with
        | none => rfl
        | some h => dsimp only; split <;> rfl

/-- The furnace named by a number byte (R21). -/
theorem ofNumberByte_numberByte (f : Furnace) : ofNumberByte 6 (numberByte f) = some f := by
  revert f; decide

theorem ofNumberByte_circuit (c : Circuit) : ofNumberByte 16 (numberByte c) = some c := by
  revert c; decide

theorem ofNumberByte_row (r : TripRow) : ofNumberByte 32 (numberByte r) = some r := by
  revert r; decide

theorem ofNumberByte_none {n : Nat} {b : Byte} (h : b.toNat < 1 ∨ n < b.toNat) : ofNumberByte n b = none := by
  unfold ofNumberByte
  rw [dif_neg]; omega

/-- The open heat that its furnace and its id name (R21). -/
theorem namedHeat_ok {s : State} {f : Furnace} {h : Heat} (hm : s.store.mode ≠ .unconfigured) (hf : s.heatOf f = some h) :
    namedHeat s (numberByte f) h.heatId true = .ok (f, h) := by
  simp [namedHeat, hm, ofNumberByte_numberByte, hf]

end Sys2Proof.Machine
end

