-- ==== Sys2Proof/Laws/Neighbours.lean ====
section
/-! SUPPORT. What an event of one block can hand to the others. `HandedOn s t` says once what every such operation keeps: all but
the open heats, the furnaces' powers and the tap arbiter. One lemma per shared operation of Power, HeatOps, TapOps and TripOps. -/

namespace Sys2Proof.Machine

/-- `t` is `s` but for the open heats, the furnaces' powers and the tap arbiter. -/
def HandedOn (s t : State) : Prop :=
  t = { s with heat := { s.heat with heats := t.heat.heats }, gov := { s.gov with furnaces := t.gov.furnaces }, tap := t.tap }

theorem HandedOn.refl (s : State) : HandedOn s s := rfl

theorem HandedOn.trans {s t u : State} (h : HandedOn s t) (k : HandedOn t u) : HandedOn s u := by
  unfold HandedOn at *
  rw [k, h]

theorem HandedOn.store {s t : State} (h : HandedOn s t) : t.store = s.store := by rw [h]
theorem HandedOn.trip {s t : State} (h : HandedOn s t) : t.trip = s.trip := by rw [h]
theorem HandedOn.cool {s t : State} (h : HandedOn s t) : t.cool = s.cool := by rw [h]
theorem HandedOn.link {s t : State} (h : HandedOn s t) : t.link = s.link := by rw [h]
theorem HandedOn.resp {s t : State} (h : HandedOn s t) : t.resp = s.resp := by rw [h]
theorem HandedOn.clock {s t : State} (h : HandedOn s t) : t.clock = s.clock := by rw [h]
theorem HandedOn.pending {s t : State} (h : HandedOn s t) : t.pending = s.pending := by rw [h]
theorem HandedOn.resetLow {s t : State} (h : HandedOn s t) : t.resetLow = s.resetLow := by rw [h]
theorem HandedOn.estop {s t : State} (h : HandedOn s t) : t.estopAsserted = s.estopAsserted := by rw [h]
theorem HandedOn.window {s t : State} (h : HandedOn s t) : t.gov.window = s.gov.window := by rw [h]
theorem HandedOn.history {s t : State} (h : HandedOn s t) : t.gov.history = s.gov.history := by rw [h]
theorem HandedOn.closedLog {s t : State} (h : HandedOn s t) : t.heat.closedLog = s.heat.closedLog := by rw [h]
theorem HandedOn.dipWindows {s t : State} (h : HandedOn s t) : t.heat.dipWindows = s.heat.dipWindows := by rw [h]

theorem HandedOn.setHeat (s : State) (f : Furnace) (h : Option Heat) : HandedOn s (s.setHeat f h) := rfl
theorem HandedOn.modifyHeat (s : State) (f : Furnace) (g : Heat → Heat) : HandedOn s (s.modifyHeat f g) := rfl
theorem HandedOn.mapHeats (s : State) (g : Furnace → Heat → Heat) : HandedOn s (s.mapHeats g) := rfl
theorem HandedOn.setPower (s : State) (f : Furnace) (p : FurnacePower) : HandedOn s (s.setPower f p) := rfl
theorem HandedOn.mapPowers (s : State) (g : Furnace → FurnacePower → FurnacePower) : HandedOn s (s.mapPowers g) := rfl
theorem HandedOn.setStation (s : State) (x : Station) : HandedOn s (s.setStation x) := rfl
theorem HandedOn.setTap (s : State) (x : TapArbiter) : HandedOn s { s with tap := x } := rfl

theorem HandedOn.foldl {α : Type} {g : State → α → State} (hg : ∀ s a, HandedOn s (g s a)) (l : List α) (s : State) :
    HandedOn s (l.foldl g s) := by
  induction l generalizing s with
  | nil => exact .refl s
  | cons a l ih => exact (hg s a).trans (ih _)

/-! ### Power -/

/-- A holding brought into step and marked (R92, R97). -/
theorem inStep_yielding_holding (p : FurnacePower) (due : Bool) : (p.inStep.yielding due).holding =
    if p.inForce = p.lastSent then none
    else some { value := p.inForce, urgent := decide (p.inForce < p.lastSent), yields := due } := by
  unfold FurnacePower.yielding FurnacePower.inStep
  by_cases e : p.inForce = p.lastSent <;> simp [e, holdingFor]

/-- R90, in full: one furnace's power becomes one whose allocation in force is within the cap and no higher than before; what was
issued, requested, sent and reported stays, and a holding made by it gives way to a POWER_SET that is due (R97). -/
theorem lowerToCap_spec (s : State) (f : Furnace) :
    ∃ p : FurnacePower, lowerToCap s f = s.setPower f p ∧ p.inForce ≤ (s.powerOf f).inForce
      ∧ (s.configured f = true → p.inForce = min (s.powerOf f).inForce (capOf s f))
      ∧ p = { s.powerOf f with inForce := p.inForce, holding := p.holding }
      ∧ p.holding = if p.inForce = (s.powerOf f).inForce then (s.powerOf f).holding
        else if p.inForce = p.lastSent then none
        else some { value := p.inForce, urgent := decide (p.inForce < p.lastSent), yields := powerSetDue s f } := by
  unfold lowerToCap
  split
  · next h =>
    simp only [Bool.and_eq_true, decide_eq_true_eq] at h
    exact ⟨_, rfl, Nat.le_of_lt h.2, fun _ => (Nat.min_eq_right (Nat.le_of_lt h.2)).symm, rfl,
      (inStep_yielding_holding _ _).trans (if_neg (Nat.ne_of_lt h.2)).symm⟩
  · next h =>
    refine ⟨s.powerOf f, ?_, Nat.le_refl _, fun hc => ?_, rfl, (if_pos rfl).symm⟩
    · simp [State.setPower, State.powerOf]
    · simp only [hc, Bool.true_and, decide_eq_true_eq] at h
      exact (Nat.min_eq_left (by omega)).symm

theorem HandedOn.lowerToCap (s : State) (f : Furnace) : HandedOn s (lowerToCap s f) := by
  obtain ⟨p, h, -⟩ := lowerToCap_spec s f
  rw [h]; exact .setPower s f p

theorem lowerToCap_heatOf (s : State) (f g : Furnace) : (lowerToCap s f).heatOf g = s.heatOf g := by
  obtain ⟨p, h, -⟩ := lowerToCap_spec s f
  rw [h]; rfl

theorem lowerToCap_tap (s : State) (f : Furnace) : (lowerToCap s f).tap = s.tap := by
  obtain ⟨p, h, -⟩ := lowerToCap_spec s f
  rw [h]; rfl

theorem lowerToCap_powerOf_other {s : State} {f g : Furnace} (h : g ≠ f) : (lowerToCap s f).powerOf g = s.powerOf g := by
  obtain ⟨p, e, -⟩ := lowerToCap_spec s f
  rw [e, powerOf_setPower, if_neg h]

theorem HandedOn.lowerEveryToCap (s : State) : HandedOn s (lowerEveryToCap s) := .foldl HandedOn.lowerToCap _ _

/-- A list of limits lowers, and each limit that applies bounds the result. -/
theorem lowestOf_le (start : Nat) (limits : List (Bool × Nat)) :
    lowestOf start limits ≤ start ∧ ∀ n, (true, n) ∈ limits → lowestOf start limits ≤ n := by
  induction limits generalizing start with
  | nil => exact ⟨Nat.le_refl _, fun n h => by cases h⟩
  | cons l ls ih =>
    obtain ⟨b, m⟩ := l
    have step : lowestOf start ((b, m) :: ls) = lowestOf (if b then min start m else start) ls := rfl
    obtain ⟨h1, h2⟩ := ih (if b then min start m else start)
    rw [step]
    refine ⟨?_, fun n hn => ?_⟩
    · cases b
      · exact h1
      · exact Nat.le_trans h1 (Nat.min_le_left _ _)
    · rcases List.mem_cons.1 hn with h | h
      · cases h; exact Nat.le_trans h1 (Nat.min_le_right _ _)
      · exact h2 n h

/-- The cap is at or below the furnace's rating (R85). -/
theorem capOf_le_rating (s : State) (f : Furnace) : capOf s f ≤ (s.furnaceEntry f).rating.toNat := (lowestOf_le _ _).1

/-- The cap reads the store, the permit, the dip window and the heat of its furnace, and nothing else (R85). -/
theorem capOf_congr {s t : State} {f : Furnace} (hs : t.store = s.store) (hp : t.permitOf f = s.permitOf f)
    (hd : t.dipWindow f = s.dipWindow f) (hh : t.heatOf f = s.heatOf f) : capOf t f = capOf s f := by
  simp only [capOf, State.furnaceEntry, hs, hp, hd, hh]

/-- R67, in full. -/
theorem closeWindow_spec (s : State) (c : ClosedBy) :
    closeWindow s c = { s with gov := { s.gov with
      history :=
        (({ number := s.gov.window.number, used := s.gov.window.used, overrun := s.gov.window.overrun
            peak := s.gov.window.peak, closedBy := c } : HistoryEntry) :: s.gov.history).take 4
      window := { s.gov.window with
        number := s.gov.window.number + 1, elapsed := 0, used := 0, overrun := 0, peak := 0, syncCount := 0
        demandOverrun := false } } } := rfl

/-! ### Heats -/

/-- A dip recorded for an open heat, as the claims write it (R31, R32, R52, R53). -/
theorem recordDip_eq (s : State) (v : Int) (source : DipSource) (h : Heat) : recordDip s v source h = dippedHeat s v source h := by
  cases hst : h.stage <;>
    by_cases c1 : ((s.programmeEntry h.programme).meltOut.toNat : Int) ≤ v <;>
    by_cases c2 : ((s.programmeEntry h.programme).holdTarget.toNat : Int) ≤ v <;>
    simp [recordDip, dippedHeat, anchor, meltOutTest, holdTargetTest, enterHolding, hst, c1, c2, State.startTimer]

/-- A closure changes the heats, the powers, the tap queue and the closed-heat log (R37). -/
theorem closeHeat_spec {s : State} {f : Furnace} {h : Heat} (hf : s.heatOf f = some h) (reason : CloseReason) :
    ∃ p : FurnacePower,
      closeHeat s f reason =
          { s with
            heat := { s.heat with
              heats := s.heat.heats.set f none, closedLog := (closedEntry s f reason h :: s.heat.closedLog).take 8 }
            gov := { s.gov with furnaces := s.gov.furnaces.set f p }
            tap := { s.tap with queue := s.tap.queue.filter fun e => e.furnace ≠ f } }
        ∧ p = { s.powerOf f with inForce := p.inForce, holding := p.holding } ∧ p.inForce ≤ (s.powerOf f).inForce := by
  unfold closeHeat
  simp only [hf]
  obtain ⟨p, e, h1, -, h3, -⟩ := lowerToCap_spec
    (({ s with heat := { s.heat with closedLog := (closedEntry s f reason h :: s.heat.closedLog).take Config.closedLogCapacity } }
      : State).setHeat f none) f
  exact ⟨p, by rw [e]; rfl, h3, h1⟩

theorem HandedOn.trimBoost (s : State) : HandedOn s (trimBoost s) := by
  refine .foldl (fun s f => ?_) _ _
  split
  · exact .modifyHeat _ _ _
  · exact .refl _

/-! ### The tap arbiter -/

/-- An evaluation of readiness changes the readiness records alone (R133). -/
theorem evaluateEach_spec (s : State) (fs : List Furnace) :
    ∃ v, evaluateEach s fs = { s with tap := { s.tap with readiness := v } } := by
  unfold evaluateEach
  induction fs generalizing s with
  | nil => exact ⟨s.tap.readiness, rfl⟩
  | cons f fs ih =>
    obtain ⟨v, hv⟩ := ih (evaluateReadiness s f)
    exact ⟨v, by rw [List.foldl_cons, hv]; rfl⟩

theorem HandedOn.evaluateEach (s : State) (fs : List Furnace) : HandedOn s (evaluateEach s fs) := by
  obtain ⟨v, h⟩ := evaluateEach_spec s fs
  rw [h]; exact .setTap s _

/-- A grant, in full (R141): the queue, the station, the tilt permit, the heat in TAPPING, the allocation in force at its cap. -/
theorem grantStation_spec (s : State) (e : TapEntry) :
    ∃ p : FurnacePower,
      grantStation s e =
          { (s.modifyHeat e.furnace grantHeat).setPower e.furnace p with
            tap := { s.tap with
              queue := s.tap.queue.filter fun x => x.furnace ≠ e.furnace
              station := grantedStation s e
              tiltHolding := some { on := true, urgent := false, furnace := e.furnace, heatId := e.heatId } } }
        ∧ p = { s.powerOf e.furnace with inForce := p.inForce, holding := p.holding }
        ∧ p.inForce ≤ (s.powerOf e.furnace).inForce := by
  obtain ⟨p, h, h1, -, h3, -⟩ := lowerToCap_spec
    ((({ s with tap := { s.tap with queue := s.tap.queue.filter fun x => x.furnace ≠ e.furnace } } : State).setStation
      (grantedStation s e)).modifyHeat e.furnace grantHeat) e.furnace
  refine ⟨p, ?_, h3, h1⟩
  show setTilt (Machine.lowerToCap _ _) true false e.furnace e.heatId = _
  rw [show grantedStation ({ s with tap := { s.tap with queue := s.tap.queue.filter fun x => x.furnace ≠ e.furnace } } : State) e
    = grantedStation s e from rfl, h]
  rfl

theorem HandedOn.grantStation (s : State) (e : TapEntry) : HandedOn s (grantStation s e) := by
  obtain ⟨p, h, -⟩ := grantStation_spec s e
  rw [h]; rfl

/-- An arbitration, in full (R140): nothing outside FREE or on an empty queue; otherwise an evaluation of the queued furnaces, and
a grant to the first entry found ready, if any. -/
theorem arbitrate_cases (s : State) :
    ((s.tap.station.state ≠ .free ∨ s.tap.queue = []) ∧ arbitrate s = s)
      ∨ (s.tap.station.state = .free ∧ ∃ t : State, t = evaluateEach s (s.tap.queue.map (·.furnace))
          ∧ ((arbitrate s = t ∧ ∀ e ∈ t.tap.queue, allMet t e.furnace = false)
            ∨ ∃ e ∈ t.tap.queue, allMet t e.furnace = true ∧ arbitrate s = grantStation t e)) := by
  unfold arbitrate
  split
  · next h =>
    refine .inr ⟨h.1, _, rfl, ?_⟩
    dsimp only
    split
    · next e he => exact .inr ⟨e, List.mem_of_find?_eq_some he, by simpa using List.find?_some he, rfl⟩
    · next he => exact .inl ⟨rfl, by simpa using he⟩
  · next h =>
    refine .inl ⟨?_, rfl⟩
    by_cases h1 : s.tap.station.state = .free
    · exact .inr (by simpa [h1] using h)
    · exact .inl h1

theorem HandedOn.arbitrate (s : State) : HandedOn s (arbitrate s) := by
  rcases arbitrate_cases s with ⟨-, h⟩ | ⟨-, t, ht, ⟨h, -⟩ | ⟨e, -, -, h⟩⟩
  · rw [h]; exact .refl s
  · rw [h, ht]; exact .evaluateEach s _
  · rw [h, ht]; exact (HandedOn.evaluateEach s _).trans (.grantStation _ e)

/-- A withdrawal, in full (R146 steps 1 to 4), as the claims write it; with no grant in its tap window it changes nothing. -/
theorem withdrawGrant_cases (s : State) (outcome : ReleaseOutcome) :
    (grantInWindow s = none ∧ withdrawGrant s outcome = s)
      ∨ ∃ g, grantInWindow s = some g ∧ s.tap.station.state = .granted ∧ s.tap.station.grant = some g
          ∧ withdrawGrant s outcome = withdrawn s g outcome := by
  unfold withdrawGrant
  cases h : grantInWindow s with
  | none => exact .inl ⟨rfl, rfl⟩
  | some g =>
    refine .inr ⟨g, rfl, ?_⟩
    unfold grantInWindow at h
    split at h
    · next hs => exact ⟨hs, h, rfl⟩
    · exact absurd h (by simp)

theorem HandedOn.withdrawn (s : State) (g : Grant) (outcome : ReleaseOutcome) : HandedOn s (withdrawn s g outcome) := rfl

theorem HandedOn.withdrawGrant (s : State) (outcome : ReleaseOutcome) : HandedOn s (withdrawGrant s outcome) := by
  rcases withdrawGrant_cases s outcome with ⟨-, h⟩ | ⟨g, -, -, -, h⟩
  · rw [h]; exact .refl s
  · rw [h]; exact .withdrawn s g outcome

theorem HandedOn.withdrawAndArbitrate (s : State) (outcome : ReleaseOutcome) : HandedOn s (withdrawAndArbitrate s outcome) := by
  unfold Machine.withdrawAndArbitrate
  split
  · exact .refl s
  · exact (HandedOn.withdrawGrant s outcome).trans (.arbitrate _)

theorem HandedOn.withdrawForCut (s : State) (f : Furnace) : HandedOn s (withdrawForCut s f) := by
  unfold Machine.withdrawForCut
  split
  · split
    · exact .withdrawAndArbitrate s _
    · exact .refl s
  · exact .refl s

theorem HandedOn.stopTaps (s : State) : HandedOn s (stopTaps s) :=
  (HandedOn.setTap s _).trans (.withdrawGrant _ _)

/-! ### The trip unit -/

theorem HandedOn.handPermitChange (s : State) (f : Furnace) (before after : Permit) : HandedOn s (handPermitChange s f before after) := by
  unfold Machine.handPermitChange
  split
  · exact (HandedOn.lowerToCap s f).trans (.modifyHeat _ _ _)
  · exact ((HandedOn.lowerToCap s f).trans (.modifyHeat _ _ _)).trans (.withdrawForCut _ f)
  · exact ((HandedOn.lowerToCap s f).trans (.modifyHeat _ _ _)).trans (.withdrawForCut _ f)
  · exact .refl s

/-- A furnace that is not present: its permit is CUT exactly while its latched cut is set, and else keeps what it was (R122). -/
theorem derivedPermit_absent {s : State} {f : Furnace} (h : (s.furnaceEntry f).present = 0) :
    derivedPermit s f = if s.trip.latchedCuts[f] then .cut else if s.permitOf f = .cut then .permitted else s.permitOf f := by
  rw [derivedPermit, if_pos h]; rfl

/-- A furnace that is present: latched cut, then cover (R122). -/
theorem derivedPermit_present {s : State} {f : Furnace} (h : (s.furnaceEntry f).present ≠ 0) :
    derivedPermit s f =
      if s.trip.latchedCuts[f] then .cut else if (lowestCovering s .shed f).isSome then .shed else .permitted := by
  rw [derivedPermit, if_neg h]; rfl

/-- The derivation of the permits: the permits as the trip unit's state gives them, then what the neighbours do (R122). -/
theorem derivePermits_spec (s : State) :
    HandedOn { s with trip := { s.trip with permits := Vector.ofFn (derivedPermit s) } } (derivePermits s) := by
  unfold derivePermits
  exact .foldl (fun s f => .handPermitChange s f _ _) _ _

/-- A cause set: nothing but the latch and its causes where it is set already, the stop of the neighbours otherwise (R124). -/
theorem setShopStop_spec (s : State) (pin row : Bool) :
    HandedOn
      { s with
        trip := { s.trip with stopLatch := true, causePin := s.trip.causePin || pin, causeRow := s.trip.causeRow || row }
        store := { s.store with
          mode := if s.trip.stopLatch = false ∧ s.store.mode = .running then .shopStop else s.store.mode } }
      (setShopStop s pin row) := by
  unfold setShopStop
  cases h : s.trip.stopLatch
  · simp only [Bool.false_eq_true, if_false, true_and]
    unfold handShopStop
    exact ((HandedOn.lowerEveryToCap _).trans (.mapHeats _ _)).trans (.stopTaps _)
  · simp only [if_true, Bool.true_eq_false, false_and, if_false]
    rfl

/-- A row swap resets the records that are not ACTIVE and changes nothing else (R130). -/
theorem resetTripRecords_spec (s : State) (r : TripRow) :
    (resetTripRecords s).trip.records[r] = resetTripRecord s.trip.records[r]
      ∧ resetTripRecords s = { s with trip := { s.trip with records := (resetTripRecords s).trip.records } } := by
  refine ⟨?_, rfl⟩
  simp only [resetTripRecords, mapEach_get]

end Sys2Proof.Machine
end

