-- ==== Sys2Proof/Laws/Blocks.lean ====
section
/-! SUPPORT. What the larger events of a block can change: the evaluation of trip rows, the swaps performed at a safe point, a
port's fall, an egress, and the events of the periodic timers when no swap is pending. -/

namespace Sys2Proof.Machine

/-! ### The evaluation of trip rows -/

/-- `t` is `s` but for the trip unit and what it hands on: the mode, the open heats, the furnaces' powers, the tap arbiter. -/
def TripHanded (s t : State) : Prop :=
  t = { s with
    store := { s.store with mode := t.store.mode }
    heat := { s.heat with heats := t.heat.heats }
    gov := { s.gov with furnaces := t.gov.furnaces }
    trip := t.trip
    tap := t.tap }

theorem TripHanded.refl (s : State) : TripHanded s s := rfl

theorem TripHanded.trans {s t u : State} (h : TripHanded s t) (k : TripHanded t u) : TripHanded s u := by
  unfold TripHanded at *
  rw [k, h]

theorem HandedOn.toTrip {s t : State} (h : HandedOn s t) : TripHanded s t := by
  unfold HandedOn at h
  unfold TripHanded
  rw [h]

theorem TripHanded.setTrip (s : State) (x : TripUnit) : TripHanded s { s with trip := x } := rfl

theorem TripHanded.foldl {α : Type} {g : State → α → State} (hg : ∀ s a, TripHanded s (g s a)) (l : List α) (s : State) :
    TripHanded s (l.foldl g s) := by
  induction l generalizing s with
  | nil => exact .refl s
  | cons a l ih => exact (hg s a).trans (ih _)

theorem TripHanded.setShopStop (s : State) (pin row : Bool) : TripHanded s (setShopStop s pin row) := by
  have h := (setShopStop_spec s pin row).toTrip
  unfold TripHanded at *
  rw [h]

theorem TripHanded.derivePermits (s : State) : TripHanded s (derivePermits s) :=
  (TripHanded.setTrip s _).trans (derivePermits_spec s).toTrip

theorem TripHanded.takeAction (s : State) (ch : TripChange) : TripHanded s (takeAction s ch) := by
  cases ch with
  | none => exact .refl s
  | returned => exact .refl s
  | activated snap =>
    unfold Machine.takeAction
    dsimp only
    split
    · exact .setTrip s _
    · exact .setShopStop s _ _
    · exact .refl s

/-- An evaluation of rows changes the trip unit and what it hands on, and nothing else (R117, R121, R122). -/
theorem TripHanded.evaluateRows (s : State) (due : TripEntry → Bool) : TripHanded s (evaluateRows s due) := by
  unfold Machine.evaluateRows
  dsimp only
  split
  · exact ((TripHanded.setTrip s _).trans (.foldl (fun s _ => .takeAction s _) _ _)).trans (.derivePermits _)
  · exact (TripHanded.setTrip s _).trans (.foldl (fun s _ => .takeAction s _) _ _)

/-! ### Swaps at a safe point -/

theorem pendingAmong_eq_nil {s : State} {ids : List TableId} (h : ∀ id ∈ ids, s.store.swapPendingOf id = false) :
    pendingAmong s ids = [] := by
  unfold pendingAmong
  exact List.filter_eq_nil_iff.2 fun id hid => by simp [h id hid]

/-- `t` is `s` but for what swaps change: the tables, the open heats, the furnaces' powers, the sync count, the circuit records,
the trip unit, the tap arbiter. -/
def SwapTook (s t : State) : Prop :=
  t = { s with
    store := t.store
    heat := { s.heat with heats := t.heat.heats }
    gov := { s.gov with furnaces := t.gov.furnaces, window := { s.gov.window with syncCount := t.gov.window.syncCount } }
    cool := { s.cool with circuits := t.cool.circuits }
    trip := t.trip
    tap := t.tap }

theorem SwapTook.refl (s : State) : SwapTook s s := rfl

theorem SwapTook.trans {s t u : State} (h : SwapTook s t) (k : SwapTook t u) : SwapTook s u := by
  unfold SwapTook at *
  rw [k, h]

theorem TripHanded.toSwap {s t : State} (h : TripHanded s t) : SwapTook s t := by
  unfold TripHanded at h
  unfold SwapTook
  rw [h]

theorem SwapTook.applyWhen {c : Bool} {g : State → State} {s t : State} (h : SwapTook s t) (hg : ∀ x, SwapTook x (g x)) :
    SwapTook s (applyWhen c g t) := by
  cases c
  · exact h
  · exact h.trans (hg t)

theorem SwapTook.shopSwapEffects (before : ShopEntry) (s : State) : SwapTook s (shopSwapEffects before s) := by
  unfold Machine.shopSwapEffects
  dsimp only
  split
  · exact SwapTook.trans (t := s.setWindow { s.gov.window with syncCount := 0 }) rfl (HandedOn.trimBoost _).toTrip.toSwap
  · exact (HandedOn.trimBoost s).toTrip.toSwap

theorem TripHanded.widenCuts (b : CoverBanks) (s : State) : TripHanded s (widenCuts b s) := by
  unfold Machine.widenCuts latchCuts
  exact .setTrip s _

theorem HandedOn.recomputeOverfill (s : State) : HandedOn s (recomputeOverfill s) := by
  unfold Machine.recomputeOverfill
  exact .mapHeats s _

theorem HandedOn.reconfigureFurnaces (before : Furnace → Bool) (s : State) : HandedOn s (reconfigureFurnaces before s) := by
  unfold Machine.reconfigureFurnaces
  exact .mapPowers s _

theorem SwapTook.setCircuits (s : State) (x : Vector CircuitRecord 16) :
    SwapTook s { s with cool := { s.cool with circuits := x } } := rfl

theorem SwapTook.circuitSwapEffects (s : State) : SwapTook s (circuitSwapEffects s) := by
  unfold Machine.circuitSwapEffects
  exact .setCircuits s _

theorem SwapTook.resetTripRecords (s : State) : SwapTook s (resetTripRecords s) := by
  unfold Machine.resetTripRecords
  exact (TripHanded.setTrip s _).toSwap

/-- What the swaps of a safe point can change (R12, R16). -/
theorem SwapTook.performSwaps (ids : List TableId) (s : State) : SwapTook s (performSwaps ids s) := by
  unfold Machine.performSwaps
  dsimp only
  apply SwapTook.applyWhen
  · apply SwapTook.applyWhen
    · apply SwapTook.applyWhen
      · apply SwapTook.applyWhen
        · apply SwapTook.applyWhen
          · apply SwapTook.applyWhen
            · apply SwapTook.applyWhen
              · rfl
              · exact fun x => .shopSwapEffects _ x
            · exact fun x => (HandedOn.mapHeats x _).toTrip.toSwap
          · exact fun x => (HandedOn.recomputeOverfill x).toTrip.toSwap
        · exact fun x => (HandedOn.reconfigureFurnaces _ x).toTrip.toSwap
      · exact fun x => .circuitSwapEffects x
    · exact fun x => .resetTripRecords x
  · exact fun x => ((TripHanded.widenCuts _ x).trans (.derivePermits _)).toSwap

/-- With no governor swap pending, step 3 of R64 changes nothing. -/
theorem governorSwaps_idle {s : State} (h : ∀ id ∈ ([.shop, .unit, .furnace, .programme] : List TableId), s.store.swapPendingOf id = false) :
    governorSwaps s = s := by
  unfold governorSwaps performPending
  rw [if_pos (pendingAmong_eq_nil h)]

/-- With no cooling swap pending, step 2 of R108 changes nothing. -/
theorem coolingSwaps_idle {s : State} (h : ∀ id ∈ ([.channel, .circuit, .trip] : List TableId), s.store.swapPendingOf id = false) :
    coolingSwaps s = s := by
  unfold coolingSwaps performPending
  rw [if_pos (pendingAmong_eq_nil h)]

/-- The charge of a period and the close test leave the tables as they are. -/
theorem chargeAndAdvance_store (s : State) : (chargeAndAdvance s).store = s.store := by
  unfold chargeAndAdvance
  dsimp only
  split <;> rfl

/-- An allocation period with no swap pending: the account, then the allocation, then the holdings (R64). -/
theorem allocationEvent_noSwap {s : State}
    (h : ∀ id ∈ ([.shop, .unit, .furnace, .programme] : List TableId), s.store.swapPendingOf id = false) :
    allocationEvent s =
      refreshHoldings (chargeAndAdvance { s with gov := { s.gov with allocationTimer := s.startTimer 1 } }).gov.furnaces
        (allocate (chargeAndAdvance { s with gov := { s.gov with allocationTimer := s.startTimer 1 } })) := by
  unfold allocationEvent
  dsimp only
  rw [governorSwaps_idle]
  rw [chargeAndAdvance_store]
  exact h

/-- An age expiry with no swap pending: the ages, then the rows due (R108). -/
theorem ageEvent_noSwap {s : State}
    (h : ∀ id ∈ ([.channel, .circuit, .trip] : List TableId), s.store.swapPendingOf id = false) :
    ageEvent s = evaluateRows (ageCircuits s) dueAtAge := by
  have e : (ageCircuits s).store = s.store := by unfold ageCircuits; rfl
  unfold ageEvent
  dsimp only
  rw [coolingSwaps_idle (s := ageCircuits s) (by rw [e]; exact h)]

/-! ### Ports -/

/-- FIELD becoming DOWN, whole (R153): its own state, the hold-off test toward PLANT, its queue, and the marks of the setpoint
holdings (R97). -/
theorem portDown_field_eq (s : State) : portDown .field s =
    { s with
      link := { s.link with
        plant := holdTestedPort 0 s.link.plant, toField := []
        field := { gapPort s.link.field with up := false, liveness := false, receiving := false, heldOff := false } }
      gov := { s.gov with furnaces := mapEach s.gov.furnaces fun _ x => x.yielding false } } := by
  simp only [portDown, holdOffTest_eq, enterGap_eq]
  rfl

/-- PLANT becoming DOWN, whole (R153, R163): its own state, the hold-off test toward FIELD, its queue, the replies and the status
holding. -/
theorem portDown_plant_eq (s : State) : portDown .plant s =
    { s with
      link := { s.link with
        plant := { gapPort s.link.plant with up := false, liveness := false, receiving := false, heldOff := false }
        field := holdTestedPort 0 s.link.field, toPlant := [] }
      resp := { s.resp with replies := [], statusHolding := none } } := by
  simp only [portDown, holdOffTest_eq, enterGap_eq]
  rfl

/-- What a transmission start takes from the part: holdings, queues, replies, powers (R158, R95). -/
def EgressTook (s t : State) : Prop :=
  t = { s with
    gov := { s.gov with furnaces := t.gov.furnaces }
    tap := { s.tap with tiltHolding := t.tap.tiltHolding }
    link := t.link
    resp := { s.resp with replies := t.resp.replies, statusHolding := t.resp.statusHolding } }

theorem EgressTook.refl (s : State) : EgressTook s s := rfl

theorem EgressTook.trans {s t u : State} (h : EgressTook s t) (k : EgressTook t u) : EgressTook s u := by
  unfold EgressTook at *
  rw [k, h]

theorem EgressTook.setPower (s : State) (f : Furnace) (x : FurnacePower) : EgressTook s (s.setPower f x) := rfl

theorem EgressTook.modifyPort (s : State) (p : Port) (g : PortState → PortState) : EgressTook s (s.modifyPort p g) := by
  cases p <;> rfl

theorem EgressTook.countPort (s : State) (p : Port) (g : Counters → Counters) : EgressTook s (s.countPort p g) := by
  cases p <;> rfl

theorem EgressTook.setQueueTo (s : State) (p : Port) (q : List Frame) : EgressTook s (s.setQueueTo p q) := by
  cases p <;> rfl

theorem EgressTook.takeSource {p : Port} {src : TxSource} {s t : State} {fr : Frame} (h : takeSource p src s = some (fr, t)) :
    EgressTook s t := by
  cases src with
  | tilt =>
    simp only [Machine.takeSource, Option.map_eq_some_iff, Prod.mk.injEq] at h
    obtain ⟨_, -, -, rfl⟩ := h
    rfl
  | setpoint f =>
    simp only [Machine.takeSource, Option.map_eq_some_iff, Prod.mk.injEq] at h
    obtain ⟨_, -, -, rfl⟩ := h
    rfl
  | reply =>
    unfold Machine.takeSource at h
    dsimp only at h
    split at h
    · simp only [Option.some.injEq, Prod.mk.injEq] at h
      obtain ⟨-, rfl⟩ := h
      rfl
    · cases h
  | status =>
    simp only [Machine.takeSource, Option.map_eq_some_iff, Prod.mk.injEq] at h
    obtain ⟨_, -, -, rfl⟩ := h
    rfl
  | forwarded =>
    unfold Machine.takeSource at h
    dsimp only at h
    split at h
    · simp only [Option.some.injEq, Prod.mk.injEq] at h
      obtain ⟨-, rfl⟩ := h
      exact (EgressTook.setQueueTo s p _).trans (.modifyPort _ _ _)
    · cases h

theorem EgressTook.clampAtEgress (p : Port) (fr : Frame) (s : State) : EgressTook s (clampAtEgress p fr s).2 := by
  unfold Machine.clampAtEgress
  cases p
  · exact .refl s
  · dsimp only
    split
    · unfold clampPowerSet
      dsimp only
      split
      · split
        · exact (EgressTook.modifyPort s _ _).trans (.setPower _ _ _)
        · dsimp only
          split
          · exact (EgressTook.modifyPort s _ _).trans (.setPower _ _ _)
          · exact .setPower _ _ _
      · dsimp only
        exact .countPort s .field _
    · exact .refl s

/-- An egress changes the ports and queues, what its frame came from, and the power of the furnace a POWER_SET names (R158). -/
theorem EgressTook.egressStart (p : Port) (s : State) : EgressTook s (egressStart p s) := by
  unfold Machine.egressStart
  split
  · split
    · unfold startTransmission
      split
      · exact .refl s
      · next h =>
        exact ((EgressTook.takeSource h).trans (.clampAtEgress p _ _)).trans (.modifyPort _ _ _)
    · exact .refl s
  · exact .refl s

end Sys2Proof.Machine
end

