-- ==== Sys2Proof/Laws/Vocabulary.lean ====
section
/-! SUPPORT. The vocabulary of Safety.lean against the operations of the model: a lowering to 0 (R90, R92), a closure (R37), a grant
(R141) and an arbitration (R140), each as one equation between whole states, and the checks of R11 step 3 that the ranges of R3 to
R9 decide. -/

namespace Sys2Proof.Machine

/-! ### Lowering to 0 -/

/-- A furnace with no open heat, or with its heat in TAPPING, has the cap 0 (R85). -/
theorem capOf_eq_zero_of_emptyOrTapping {s : State} {f : Furnace} (h : emptyOrTapping (s.heatOf f) = true) : capOf s f = 0 := by
  simp [capOf, lowestOf, h]

/-- A frame sets the power of the furnace (R95). -/
theorem setsPowerOf_iff {s : State} {f : Furnace} {fr : Frame} : setsPowerOf s f fr = true ↔ PowerSetFor s f fr := by
  unfold setsPowerOf
  rw [Bool.and_eq_true, decide_eq_true_iff, decide_eq_true_iff]
  exact Iff.rfl

/-- An optional item passes a test. -/
theorem option_any_iff {α : Type} {o : Option α} {q : α → Bool} : o.any q = true ↔ ∃ x ∈ o, q x = true := by
  cases o <;> simp

/-- The forwarded frame next to leave FIELD sets the power of the furnace (R95). -/
theorem nextSetsPower_iff {s : State} {f : Furnace} : nextSetsPower s f = true ↔ PowerSetNext s f := by
  simp only [nextSetsPower, option_any_iff, setsPowerOf_iff, PowerSetNext]

/-- A POWER_SET for the furnace is due (R97). -/
theorem powerSetDue_eq (s : State) (f : Furnace) : powerSetDue s f = decide (PowerSetDue s f) := by
  rw [Bool.eq_iff_iff, decide_eq_true_iff]
  simp only [powerSetDue, Bool.and_eq_true, nextSetsPower_iff, Bool.not_eq_true', ← Bool.not_eq_true, option_any_iff,
    setsPowerOf_iff, PowerSetDue, not_exists, not_and]

/-- A setpoint holding gives way exactly where it is marked and the next forwarded frame sets its furnace's power (R97). -/
theorem givesWay_setpoint_iff {s : State} {f : Furnace} :
    givesWay s (.setpoint f) = true ↔ (∃ h ∈ (s.powerOf f).holding, h.yields = true) ∧ PowerSetNext s f := by
  simp only [givesWay, Bool.and_eq_true, option_any_iff, nextSetsPower_iff]

/-- A furnace with power in force, lowered to 0, has its holding in step (R92). -/
theorem loweredToZero_of_pos {s : State} {f : Furnace} (hc : s.configured f = true) (hp : 0 < (s.powerOf f).inForce) :
    loweredToZero s f = { s.powerOf f with inForce := 0 }.inStep.yielding (powerSetDue s f) := by
  unfold loweredToZero FurnacePower.inStep FurnacePower.yielding holdingFor
  rw [powerSetDue_eq]
  simp only [hc, hp, and_self, if_true]
  rcases Nat.eq_zero_or_pos (s.powerOf f).lastSent with h | h
  · rw [h]; rfl
  · simp [Nat.ne_of_gt h, Nat.ne_of_lt h, h]

/-- A lowering under a cap of 0 (R90, R92). -/
theorem lowerToCap_of_cap_zero {s : State} {f : Furnace} (h : capOf s f = 0) :
    lowerToCap s f = { s with gov := { s.gov with furnaces := s.gov.furnaces.set f (loweredToZero s f) } } := by
  unfold lowerToCap
  rw [h]
  split
  · next hl =>
    simp only [Bool.and_eq_true, decide_eq_true_eq] at hl
    rw [loweredToZero_of_pos hl.1 hl.2]
    rfl
  · next hl =>
    have keep : loweredToZero s f = s.gov.furnaces[f] := by
      unfold loweredToZero
      rw [if_neg (by simpa using hl)]
      rfl
    rw [keep]
    simp

/-! ### Closure and grant -/

/-- R37: the closure of an open heat. -/
theorem closeHeat_eq {s : State} {f : Furnace} {h : Heat} (reason : CloseReason) (hh : s.heatOf f = some h) :
    closeHeat s f reason = closedOut s f h reason := by
  unfold closeHeat closedOut
  rw [hh]
  simp only
  rw [lowerToCap_of_cap_zero (capOf_eq_zero_of_emptyOrTapping (by simp [emptyOrTapping, State.heatOf, State.setHeat]))]
  rfl

/-- The tare of a grant: the weight last reported, 0 without a report (R141). -/
theorem grantedStation_tare (s : State) (e : TapEntry) : (grantedStation s e).tare = (s.tap.station.lastReport.map (·.weight)).getD 0 := by
  unfold grantedStation
  cases s.tap.station.lastReport <;> rfl

/-- R141: a grant. -/
theorem grantStation_eq (s : State) (e : TapEntry) : grantStation s e = grantedNow s e := by
  unfold grantStation grantedNow
  simp only
  rw [lowerToCap_of_cap_zero (capOf_eq_zero_of_emptyOrTapping (by
    cases h : s.heat.heats[e.furnace] <;>
      simp [emptyOrTapping, State.heatOf, State.setHeat, State.modifyHeat, State.setStation, grantHeat, h]))]
  rw [← grantedStation_tare s e]
  rfl

/-! ### Arbitration -/

/-- The findings read nothing of the tap arbiter (R132). -/
theorem findingsOf_setTap (s : State) (x : TapArbiter) (f : Furnace) : findingsOf { s with tap := x } f = findingsOf s f := rfl

/-- R133: the records of a list of furnaces are evaluated, each against the same state. -/
theorem evaluateEach_eq (s : State) (fs : List Furnace) :
    evaluateEach s fs = { s with tap := { s.tap with readiness := Vector.ofFn fun f =>
      if f ∈ fs then { met := findingsOf s f, evaluatedAt := some s.clock } else s.tap.readiness[f] } } := by
  induction fs generalizing s with
  | nil => simp [evaluateEach]
  | cons g fs ih =>
    have step : evaluateEach s (g :: fs) = evaluateEach (evaluateReadiness s g) fs := rfl
    rw [step, ih]
    unfold evaluateReadiness
    simp only [findingsOf_setTap]
    congr 2
    ext i hi : 1
    simp only [Vector.getElem_ofFn, List.mem_cons, Fin.getElem_fin, Vector.getElem_set]
    by_cases hm : (⟨i, hi⟩ : Furnace) ∈ fs <;> by_cases hg : (⟨i, hi⟩ : Furnace) = g
    · subst hg
      simp [hm]
    · simp [hm, hg]
    · subst hg
      simp [hm]
    · have : ¬ g.val = i := fun e => hg (Fin.ext e.symm)
      simp [hm, hg, this]

/-- A search over a list finds the same with two tests that agree on its members. -/
theorem find?_of_agree {α : Type} {p q : α → Bool} {l : List α} (h : ∀ x ∈ l, p x = q x) : l.find? p = l.find? q := by
  induction l with
  | nil => rfl
  | cons x l ih =>
    rw [List.find?_cons, List.find?_cons, h x (List.mem_cons_self ..), ih fun y hy => h y (List.mem_cons_of_mem _ hy)]

/-- R140: an arbitration of a FREE station. -/
theorem arbitrate_eq {s : State} (h : s.tap.station.state = .free) : arbitrate s = arbitrated s := by
  unfold arbitrate arbitrated
  by_cases hq : s.tap.queue = []
  · rw [if_neg (by simp [hq])]
    simp only [hq, List.find?_nil, List.not_mem_nil, false_and, exists_false, if_false, Fin.getElem_fin, Vector.ofFn_getElem]
    rw [← hq]
  · rw [if_pos ⟨h, hq⟩]
    simp only [evaluateEach_eq, List.mem_map]
    rw [find?_of_agree (q := fun e => (findingsOf s e.furnace).allMet) fun e he => by
      have : ∃ x ∈ s.tap.queue, x.furnace = e.furnace := ⟨e, he, rfl⟩
      simp [allMet, this]]
    cases s.tap.queue.find? fun e => (findingsOf s e.furnace).allMet with
    | some e => simp only [grantStation_eq]
    | none => rfl

/-! ### The checks of a swap (R11) -/

/-- A list of checks names no field exactly when every check holds. -/
theorem firstFailing_eq_none {checks : List (Bool × Nat)} : firstFailing checks = none ↔ ∀ c ∈ checks, c.1 = true := by
  simp [firstFailing]

/-- The first entry that fails names itself and a field of its own (R11 step 3). -/
theorem firstInvalid_of_first {n start : Nat} {check : Fin n → Option Nat} {i : Fin n} {field : Nat} (hi : check i = some field)
    (before : ∀ j : Fin n, j < i → check j = none) : firstInvalid n start check = some (i.val + start, field) := by
  unfold firstInvalid
  rw [List.findSome?_eq_some_iff]
  refine ⟨(List.finRange n).take i.val, i, (List.finRange n).drop (i.val + 1), ?_, by simp [hi], fun j hj => ?_⟩
  · have : i.val < (List.finRange n).length := by simp
    conv => lhs; rw [← List.take_append_drop i.val (List.finRange n), List.drop_eq_getElem_cons this]
    simp
  · obtain ⟨k, hk, rfl⟩ := List.mem_take_iff_getElem.mp hj
    simp only [List.getElem_finRange]
    rw [before _ (by simp [Fin.lt_def]; omega)]
    rfl

/-- No entry fails exactly when every check passes. -/
theorem firstInvalid_eq_none {n start : Nat} {check : Fin n → Option Nat} :
    firstInvalid n start check = none ↔ ∀ i : Fin n, check i = none := by
  simp [firstInvalid]

/-- R6: the checks of a PROGRAMME entry. -/
theorem checkProgramme_eq_none {e : ProgrammeEntry} : checkProgramme e = none ↔ (e.present ≠ 0 → e.inRanges = true) := by
  unfold checkProgramme
  split
  · simp_all
  · rw [firstFailing_eq_none]
    simp_all [ProgrammeEntry.inRanges, within, flagField]
    omega

/-- R8: the checks of a CIRCUIT entry. -/
theorem checkCircuit_eq_none {e : CircuitEntry} : checkCircuit e = none ↔ (e.present ≠ 0 → e.inRanges = true) := by
  unfold checkCircuit
  split
  · simp_all
  · rw [firstFailing_eq_none]
    unfold CircuitEntry.owner
    by_cases h0 : e.ownerKind = 0 <;> by_cases h1 : e.ownerKind = 1 <;>
      simp_all [CircuitEntry.inRanges, within, flagField] <;> omega

/-- R9: the checks of a TRIP entry. -/
theorem checkTrip_eq_none {e : TripEntry} : checkTrip e = none ↔ (e.present ≠ 0 → e.inRanges = true) := by
  unfold checkTrip
  split
  · simp_all
  · rw [firstFailing_eq_none]
    unfold TripEntry.scope
    by_cases h0 : e.scopeKind = 0 <;> by_cases h1 : e.scopeKind = 1 <;> by_cases h2 : e.scopeKind = 2 <;>
      simp_all [TripEntry.inRanges, within, flagField] <;> omega

/-! ### Swaps -/

/-- R111: a CIRCUIT swap makes each record follow the entry in force. -/
theorem circuitSwapRecord_eq (s : State) (c : Circuit) (r : CircuitRecord) :
    circuitSwapRecord s c r = recordFollowing s s.store.circuit.active[c] r := by
  unfold circuitSwapRecord recordFollowing
  generalize s.store.circuit.active[c] = e
  have present : (e.present != 0#8) = !decide (e.present = 0#8) := rfl
  by_cases he : e.present = 0#8 <;> cases there : r.present <;> simp [present, he, State.startTimer]

/-- R130: a TRIP swap resets a record that is not ACTIVE. -/
theorem resetTripRecord_eq (x : TripRecord) : resetTripRecord x = recordAfterSwap x := rfl

/-- R98: the configured furnaces are determined anew. -/
theorem reconfigureFurnaces_eq (was : Furnace → Bool) (s : State) :
    reconfigureFurnaces was s = s.mapPowers fun f p => powerFollowing s (was f) (s.configured f) p := by
  unfold reconfigureFurnaces powerFollowing
  congr
  funext f p
  cases was f <;> cases s.configured f <;> rfl

/-- R122: the permit a derivation gives. -/
theorem derivedPermit_eq (s : State) (f : Furnace) : derivedPermit s f = permitFrom s (s.permitOf f) f := by
  have covered : (lowestCovering s .shed f).isSome = true ↔ ∃ r : TripRow, activeCovers s s.store.coverBanks .shed f r = true := by
    simp [lowestCovering, tripRows, List.find?_isSome]
  unfold derivedPermit keptPermit coveredPermit permitFrom
  simp only [covered]
  split <;> split <;> simp_all

end Sys2Proof.Machine
end

