-- ==== Sys2Proof/WellFormed.lean ====
section
/-! DEFINITION. Which commands the link can bring: node addresses are 0 to 127 and payloads at most 120 bytes (R154),
and the symbol of LINE_SYMBOL_RECEIVED is idle, start or data. `exec` is total: it gives ill-formed commands a meaning too
(a frame with a payload above 120 bytes is a length drop). -/

namespace Sys2Proof

/-- A destination or source field is 0 to 127 (R154). -/
def Byte.isNode (b : Byte) : Bool := b.toNat ≤ 127

/-- A frame of the layout of R154. -/
def frameWellFormed (dst src : Byte) (payloadLength : Nat) : Bool :=
  Byte.isNode dst && Byte.isNode src && decide (payloadLength ≤ Config.maxPayload)

/-- The symbols of LINE_SYMBOL_RECEIVED. -/
def LineSymbol.isLine : LineSymbol → Bool
  | .idle | .frameStart | .data _ => true
  | .frameEnd | .hold | .go => false

/-- The check of one command's operands. -/
def Instr.wf : Instr → Bool
  | .lineSymbolReceived _ sym => sym.isLine
  | .sample _ d s pl | .powerSet _ d s pl | .powerReport _ d s pl | .pourReport _ d s pl
  | .windowSync _ d s pl | .mgmtRequest _ d s pl => frameWellFormed d s pl.length
  | .dipEventStart _ d s r | .dipEventResult _ d s r | .dipEventAbort _ d s r => frameWellFormed d s (r.length + 1)
  | .tableWrite src _ _ _ _ es => frameWellFormed 0 src (es.length + 5)
  | .tableSwap src .. | .tableRead src .. | .heatOpen src .. | .chargeAdd src .. | .heatClose src ..
  | .readHeat src .. | .readClosed src .. | .dipEnter src .. | .holdSet src .. | .holdRelease src ..
  | .readDemand src .. | .readCircuit src .. | .readTrip src .. | .clearTrip src .. | .restorePower src ..
  | .restoreShop src .. | .chemAccept src .. | .chemRevoke src .. | .tapRequest src .. | .tapCancel src ..
  | .readTap src .. | .readPorts src .. | .warmReset src .. => Byte.isNode src
  | .coldReset | .resetNAssertion | .estopNAssertion | .estopNDeassertion | .shopClockTick
  | .symbolReceivedPortUp .. | .holdReceived _ | .goReceived _ | .livenessTimerExpiry _
  | .egressTransmissionStart _ | .transmissionEnd _ | .frameReceive .. | .warmResetTaken
  | .integrationTimerExpiry _ | .allocationPeriodExpiry | .plantSilence | .refreshTimerExpiry _
  | .ageTimerExpiry | .spanTimerExpiry _ | .holdIntervalExpiry _ | .directedHoldExpiry _ | .dipTimerExpiry _
  | .readinessTimerExpiry | .tapWindowExpiry | .stationSilenceExpiry | .statusTimerExpiry => true

end Sys2Proof
end

