-- ==== Sys2Proof/Tests/Slice0.lean ====
section
/-! SUPPORT. Small tests of one step each, with expected values from the worked sequences of spec/, the smoke test of
WellFormed, and for every obligation with hypotheses a witness that meets them. -/

open Sys2Proof Sys2Proof.Machine

namespace Sys2Proof.Tests

set_option Elab.async false

/-! ### The shop of the worked sequences -/

/-- The state a command leaves. -/
def after (c : Instr) (s : State) : State :=
  match exec c s with
  | .next t => t
  | .fault _ | .refused _ => s

/-- The SHOP entry of sections 4.8 and 8.10. -/
def shopRow : ShopEntry :=
  { ceiling := 12000, peakCap := 14000, pourNode := 40, restAngle := 30 }

/-- A unit of section 5.11. -/
def unitRow (node out1 out2 : Byte) : UnitEntry :=
  { present := 1, node := node, rating := 8000, output1 := out1, output2 := out2 }

/-- A furnace of sections 2.10, 3.4 and 5.11. -/
def furnaceRow (unit output weight : Byte) (holdFloor : Half) : FurnaceEntry :=
  { present := 1, unit := unit, output := output, rating := 6000, ramp := 1500, weight := weight, holdFloor := holdFloor, boost := 500
    efficiency := 768, loss := 300, capacity := 12000, heelMinimum := 2000, minTapMass := 3000, dipCap := 200, freezeLimit := 120 }

/-- The programme of sections 2.10, 3.4 and 3.9. -/
def programmeRow : ProgrammeEntry :=
  { present := 1, meltOut := 11500, meltEnergy := 1400, specificHeat := 830, holdTarget := 14800, bandLow := 100, bandHigh := 50
    tapLow := 14700, tapHigh := 15000, acceptanceLifetime := 3600 }

/-- A channel of section 6.10. -/
def channelRow (channel quantity : Byte) (gain offset rawMax : Half) : ChannelEntry :=
  { present := 1, node := 31, channel := channel, circuit := 4, quantity := quantity, gain := gain, offset := offset, rawMax := rawMax }

/-- Circuit C4 of section 6.10. -/
def circuitRow : CircuitEntry :=
  { present := 1, ownerKind := 0, ownerNumber := 2, flowDeadband := 5, inletDeadband := 2, outletDeadband := 2, maxAge := 5, spanPeriod := 10 }

/-- Row T5 of section 7.8, with a chosen action and latching. -/
def faultRow (action latching : Byte) : TripEntry :=
  { present := 1, scopeKind := 0, scopeNumber := 4, quantity := 0, condition := 7, thresholdA := 4000, thresholdB := 1500
    persistence := 2, action := action, latching := latching }

def rows (f : FurnaceEntry) : Vector FurnaceEntry 6 :=
  #v[furnaceRow 1 1 1 400, furnaceRow 1 2 2 300, furnaceRow 2 1 1 300, furnaceRow 2 2 1 300, f, {}]

/-- A table swapped once, its shadow like its active bank. -/
def swapped {α : Type} (x : α) : Banked α := { bankA := x, bankB := x, activeBank := .b, swapCount := 1 }

/-- The tables of the worked sequences; F5 and F6 are absent. -/
def store : TableStore :=
  { TableStore.cold with
    shop := swapped shopRow
    unit := swapped #v[unitRow 21 1 2, unitRow 22 3 4, {}]
    furnace := swapped (rows {})
    programme := swapped (((Vector.replicate 8 ({} : ProgrammeEntry)).set 0 programmeRow).set 2 programmeRow)
    channel := swapped ((((Vector.replicate 64 ({} : ChannelEntry)).set 6 (channelRow 0 0 2560 0 20000)).set 7
      (channelRow 1 1 512 (-400) 4000)).set 8 (channelRow 2 2 512 (-400) 4000))
    circuit := swapped ((Vector.replicate 16 ({} : CircuitEntry)).set 3 circuitRow)
    trip := swapped ((Vector.replicate 32 ({} : TripEntry)).set 4 (faultRow 2 0))
    mode := .running }

/-- A port that is UP. -/
def upPort : PortState := { PortState.cold with up := true, liveness := true }

/-- The shop in RUNNING at second 7,000, every furnace EMPTY. -/
def running : State :=
  let inService := { CircuitRecord.initial with present := true, spanTimer := some { start := 6995, length := 10 } }
  { State.reset with
    clock := 7000, store := store
    link := { State.reset.link with plant := upPort, field := upPort }
    cool := { State.reset.cool with circuits := State.reset.cool.circuits.set 3 inService } }

/-- An open heat of a bath mass, in a stage, on programme P0. -/
def heatIn (stage : Stage) (id : Word32) (mass : Nat) (estimate : Int) : Heat :=
  { heatId := id, programme := 0, stage := stage, charges := [{ second := 5000, mass := mass }], merged := false
    chargedTotal := mass, pouredTotal := 0, bathMass := mass, overfill := false
    meltRemaining := if stage = .melting then 4000000 else 0
    energyDelivered := 0, estimate := estimate, residual := 0, estimateValid := decide (stage ≠ .melting)
    lastDip := none, chemistry := .none, holdMode := .floor, directed := none
    holdTimer := if stage = .holding then some { start := 6990, length := 30 } else none
    unpowered := 0, freezeRisk := false, pours := 0, openedAt := 5000 }

/-- The power state of a furnace with an allocation, sent as it stands, and a pulpit request of this second. -/
def power (inForce : Nat) (request : Option Nat) : FurnacePower :=
  { FurnacePower.cold with
    issued := inForce, inForce := inForce, lastSent := inForce
    request := request.map fun q => { power := q, second := 7000 } }

/-- The shop of section 5.11: F1 HOLDING, F2 and F3 MELTING, F4 in SUPERHEAT, the account just short of second 7,000. -/
def atWork : State :=
  let s := { running with gov := { running.gov with window :=
    { running.gov.window with elapsed := 599, used := 7490000, issuedTotal := 10000, peak := 13200 } } }
  ((((s.setHeat 0 (some (heatIn .holding 12 9000 14800))).setHeat 1 (some (heatIn .melting 13 9000 0))).setHeat 2
    (some (heatIn .melting 57 9000 0))).setHeat 3 (some (heatIn .superheat 14 9000 12000))).mapPowers fun f p =>
      if f = 0 then power 400 none else if f = 1 then power 5000 (some 6000) else if f = 2 then power 3000 (some 6000)
      else if f = 3 then power 2500 (some 4000) else p

/-- F1 of section 8.10, fit to tap: a fresh dip within its tap window and an acceptance. -/
def readyHeat : Heat :=
  { heatIn .holding 12 9000 14800 with
    lastDip := some { value := 14800, second := 6990, source := .lance }, chemistry := .accepted 6900 }

/-- The shop with F1 fit to tap, and an empty ladle of 1,850 kg on the scale. -/
def readyShop : State :=
  let s := atWork.setHeat 0 (some readyHeat)
  s.setStation { s.tap.station with lastReport := some { tilt := 0, weight := 1850, second := 6999 }, quiet := false }

/-- The grant of F1. -/
def granted : State := after (.tapRequest 2 1 1 12) readyShop

/-- F1 pours. -/
def pouring : State := after (.pourReport .field 2 40 [62, 0, 0x3A, 0x07]) granted

/-- F1 pours, and F2, fit to tap, waits. -/
def pouringWithNext : State :=
  let s := pouring.setHeat 1 (some { readyHeat with heatId := 13 })
  { s with tap := { s.tap with queue := [{ furnace := 1, heatId := 13, second := 6990 }] } }

/-- A heat queued behind a grant. -/
def queued : State := { granted with tap := { granted.tap with queue := [{ furnace := 2, heatId := 57, second := 7000 }] } }

/-- T5 is ACTIVE, read, and its cause gone; the latched cut of F2 is set. -/
def cutShop (causePresent readSinceSet : Bool) : State :=
  { atWork.setPower 1 (power 0 none) with trip := { atWork.trip with
      records := atWork.trip.records.set 4
        { TripRecord.cold with
          state := .active, causePresent := causePresent, setSecond := some 6900, circuitAtSet := some 3, valueAtSet := some 2250
          readSinceSet := readSinceSet, snapshot := some (faultRow 2 0) }
      permits := atWork.trip.permits.set 1 .cut, latchedCuts := atWork.trip.latchedCuts.set 1 true } }

/-- The latched cut of F2 outlives its record. -/
def restorable : State :=
  { atWork.setPower 1 (power 0 none) with trip := { atWork.trip with
      permits := atWork.trip.permits.set 1 .cut, latchedCuts := atWork.trip.latchedCuts.set 1 true } }

/-- A shop stop from the pin. -/
def stopped : State := after .estopNAssertion atWork

/-- A shop stop from a row that is still ACTIVE. -/
def stoppedByRow : State :=
  { atWork with
    store := { atWork.store with mode := .shopStop }
    trip := { atWork.trip with
      stopLatch := true, causeRow := true
      records := atWork.trip.records.set 19 { TripRecord.cold with state := .active, snapshot := some (faultRow 3 0) } } }

/-- A self-clearing SHED row in the place of T5, ACTIVE; F2 is SHED. -/
def shedShop : State :=
  { running with
    store := { running.store with trip := swapped ((Vector.replicate 32 ({} : TripEntry)).set 4 (faultRow 1 1)) }
    trip := { running.trip with
      permits := running.trip.permits.set 1 .shed
      records := running.trip.records.set 4 { TripRecord.cold with state := .active, snapshot := some (faultRow 1 1) } } }

/-- A warm reset is pending and PLANT is DOWN. -/
def resetDue (s : State) : State :=
  { s with
    resp := { s.resp with warmPending := true }
    link := { s.link with plant := { s.link.plant with up := false } } }

/-- The SHOP entry in force, changed. -/
def withShop (g : ShopEntry → ShopEntry) (s : State) : State :=
  { s with store := { s.store with shop := swapped (g shopRow) } }

/-- A POWER_SET of a pulpit at node 11 for U1, output 2 (section 5.11). -/
def pulpitFrame : Frame := { dst := 21, src := 11, kind := 0x22, payload := [2, 0, 0x70, 0x17] }

/-! ### WellFormed refuses an ill-formed term for each check -/

theorem test_wf_symbol : (Instr.lineSymbolReceived .plant .idle).wf = true ∧ (Instr.lineSymbolReceived .plant .frameEnd).wf = false
    ∧ (Instr.lineSymbolReceived .field .hold).wf = false ∧ (Instr.lineSymbolReceived .field .go).wf = false := by decide

theorem test_wf_destination : (Instr.sample .field 127 2 []).wf = true ∧ (Instr.sample .field 128 2 []).wf = false := by decide

theorem test_wf_source : (Instr.windowSync .plant 1 127 []).wf = true ∧ (Instr.windowSync .plant 1 128 []).wf = false
    ∧ (Instr.readTap 127 0 0).wf = true ∧ (Instr.readTap 128 0 0).wf = false := by decide

theorem test_wf_payload : (Instr.mgmtRequest .plant 1 2 (List.replicate 120 0)).wf = true
    ∧ (Instr.mgmtRequest .plant 1 2 (List.replicate 121 0)).wf = false := by decide

theorem test_wf_dip_rest : (Instr.dipEventStart .field 1 2 (List.replicate 119 0)).wf = true
    ∧ (Instr.dipEventStart .field 1 2 (List.replicate 120 0)).wf = false := by decide

theorem test_wf_entries : (Instr.tableWrite 2 0 1 1 1 (List.replicate 115 0)).wf = true
    ∧ (Instr.tableWrite 2 0 1 1 1 (List.replicate 116 0)).wf = false := by decide

/-! ### One step each, with the figures of the worked sequences -/

/-- The check value of the CRC of R154 (polynomial 0x1021, start 0xFFFF, not reflected) over the digits 1 to 9. -/
theorem test_crc_check_value : crc16 [0x31, 0x32, 0x33, 0x34, 0x35, 0x36, 0x37, 0x38, 0x39] = 0x29B1 := by decide +kernel

/-- The empty queue idles; the front command is taken. -/
theorem test_step_takes_front :
    step { running with pending := [.shopClockTick, .coldReset] } = .next { running with clock := 7001, pending := [.coldReset] } := rfl

/-- Section 1.8, first refusal: the pour station node is still 0. -/
theorem test_first_shop_swap_is_refused : (after (.tableSwap 2 9 1) State.reset).resp.replies =
    [{ dst := 2, src := 100, kind := 0x69, payload := [0x02, 9, Status.invalidEntry.code, 0, 1, 12] }] := by decide +kernel

/-- Section 2.10, second 5,000: M_r is 8,000 × 1,400. -/
theorem test_heat_open_energy : ((after (.heatOpen 2 1 3 8000 2) running).heatOf 2).map (fun h => (h.meltRemaining, h.bathMass, h.programme))
    = some (11200000, 8000, 2) := by decide +kernel

/-- Section 2.10, second 5,900: 3,000 kg on 4,000,000 kJ owed. -/
theorem test_charge_add_energy : ((after (.chargeAdd 2 1 3 57 3000) atWork).heatOf 2).map (fun h => (h.meltRemaining, h.bathMass))
    = some (8200000, 12000) := by decide +kernel

/-- R25: a seventeenth charge joins the sixteenth entry. -/
theorem test_charge_merges :
    let full := { heatIn .melting 57 9000 0 with charges := List.replicate 15 { second := 1, mass := 1 } ++ [{ second := 8410, mass := 300 }] }
    ((after (.chargeAdd 2 1 3 57 250) { atWork.setHeat 2 (some full) with clock := 8440 }).heatOf 2).map
      (fun h => (h.charges.getLast?, h.charges.length, h.merged)) = some (some { second := 8440, mass := 550 }, 16, true) := by
  decide +kernel

/-- Section 2.10, second 7,300: a dip of 14,900 anchors the estimate and the heat enters HOLDING. -/
theorem test_dip_result_enters_holding :
    ((after (.dipEventResult .field 2 50 [4, 0x34, 0x3A]) atWork).heatOf 3).map (fun h => (h.stage, h.estimate)) = some (.holding, 14900) := by
  decide +kernel

/-- Section 3.4, first integration of the rising bath. -/
theorem test_integration_first :
    let s := (atWork.setHeat 0 (some (heatIn .holding 12 12000 14700))).setPower 0 { power 400 none with report := some { power := 2000, second := 7000 } }
    ((after (.integrationTimerExpiry 0) s).heatOf 0).map (fun h => (h.estimate, h.residual)) = some (14701, 2040000) := by decide +kernel

/-- Section 3.4, fourth integration of the falling bath: floor division and a non-negative residual. -/
theorem test_integration_falls :
    let s := (atWork.setHeat 0 (some { heatIn .holding 12 12000 14799 with residual := 960000 })).setPower 0 (power 0 none)
    ((after (.integrationTimerExpiry 0) s).heatOf 0).map (fun h => (h.estimate, h.residual)) = some (14798, 7920000) := by decide +kernel

/-- Section 5.11: the issued allocations, and the account of section 4.8. -/
theorem test_worked_allocation :
    (after .allocationPeriodExpiry atWork).gov.furnaces.map (·.issued) = #v[400, 4403, 2197, 4000, 0, 0]
      ∧ (after .allocationPeriodExpiry atWork).gov.allowance = 11000
      ∧ (after .allocationPeriodExpiry atWork).gov.window.used = 7500000 := by decide +kernel

/-- Section 5.11: the holdings of step 5. -/
theorem test_worked_holdings : (after .allocationPeriodExpiry atWork).gov.furnaces.map (·.holding) =
    #v[none, some { value := 4403, urgent := true }, some { value := 2197, urgent := true }, some { value := 4000, urgent := false },
      none, none] := by decide +kernel

/-- Section 5.11, the budget spent: the floor alone, in excess. -/
theorem test_floor_beyond_budget :
    let s := { atWork with gov := { atWork.gov with window := { atWork.gov.window with used := 10890000 } } }
    (after .allocationPeriodExpiry s).gov.window.issuedTotal = 400 ∧ (after .allocationPeriodExpiry s).gov.window.floorExcess = 400 := by
  decide +kernel

/-- Section 4.8, second 50,005: the period begun in window 41 is charged to window 42. -/
theorem test_allowance_after_sync :
    let w := { WindowRecord.cold with number := 42, issuedTotal := 400, floorExcess := 400 }
    let s := withShop (fun e => { e with windowMode := 1 }) { atWork with gov := { atWork.gov with window := w } }
    (after .allocationPeriodExpiry s).gov.allowance = 12012 ∧ (after .allocationPeriodExpiry s).gov.window.overrun = 400 := by
  decide +kernel

/-- Section 5.11: the pulpit frame of 6,000 leaves with F2's 4,403 and CLAMPED set. -/
theorem test_pulpit_frame_is_clamped :
    let s := (atWork.setPower 1 (power 4403 (some 6000))).setQueueTo .field [pulpitFrame]
    (after (.egressTransmissionStart .field) s).link.field.tx =
      some { source := .forwarded, frame := { pulpitFrame with payload := [2, 1, 0x33, 0x11] } } := by decide +kernel

/-- Section 5.11: the recorded pulpit request. -/
theorem test_pulpit_request_is_recorded :
    ((after (.powerSet .plant 21 11 [2, 0, 0x70, 0x17]) running).powerOf 1).request = some { power := 6000, second := 7000 } := by
  decide +kernel

/-- R103: floor, toward minus infinity. -/
theorem test_scaling_floors : scaleReading (channelRow 0 0 512 0 0) (-3) = -2 := by decide

/-- Section 6.10, second 40,000.3: the three readings of one frame. -/
theorem test_sample_frame :
    let r := (after (.sample .field 2 31 [0, 0, 0xE8, 0x03, 1, 0, 0xDC, 0x05, 2, 0, 0xA4, 0x06]) running).cool.circuits[(3 : Circuit)]
    (r.flow, r.inlet.value, r.outlet.value, r.deltaT) = ({ value := some 2500, age := 0 }, some 350, some 450, some 100) := by
  decide +kernel

/-- A circuit whose flow goes stale at the next age expiry, one evaluation short of T5's persistence (section 7.8). -/
def stale (s : State) : State :=
  let r := { CircuitRecord.initial with present := true, flow := { value := some 2250, age := 6 } }
  { s with
    cool := { s.cool with circuits := s.cool.circuits.set 3 r }
    trip := { s.trip with records := s.trip.records.set 4 { TripRecord.cold with state := .pending, persistenceCount := 1, causePresent := true } } }

/-- Section 7.8, second 40,017: T5 activates, F2 is CUT and its allocation falls to 0. -/
theorem test_stale_flow_cuts :
    let t := after .ageTimerExpiry (stale atWork)
    (t.trip.records[(4 : TripRow)].state, t.trip.latchedCuts[(1 : Furnace)], t.permitOf 1, (t.powerOf 1).inForce) = (.active, true, .cut, 0) := by
  decide +kernel

/-- Section 5.11 at second 7,000.20 and after: F2 at 4,403, its pulpit frames waiting, and row T5 with action SHED one evaluation
short of its persistence. -/
def pulpitWaits (frames : List Frame) : State :=
  let s := (atWork.setPower 1 (power 4403 (some 6000))).setQueueTo .field frames
  stale { s with store := { s.store with trip := swapped ((Vector.replicate 32 ({} : TripEntry)).set 4 (faultRow 1 1)) } }

/-- What leaves FIELD next: the source, and the flags and setpoint of its POWER_SET. -/
def leavesField (s : State) : Option (TxSource × List Byte) :=
  (after (.egressTransmissionStart .field) s).link.field.tx.map fun t => (t.source, t.frame.payload.drop 1)

/-- The end of section 5.11 (R97, lowering taken first): a SHED at 7,000.25, before the forwarded frame started, has it leave with 300,
CLAMPED set, and the lowering's holding is withdrawn. -/
theorem test_shed_before_a_waiting_pulpit_frame :
    let s := after .ageTimerExpiry (pulpitWaits [pulpitFrame])
    s.permitOf 1 = .shed ∧ (s.powerOf 1).holding = some { value := 300, urgent := true, yields := true }
      ∧ leavesField s = some (.forwarded, [1, 0x2C, 0x01])
      ∧ ((after (.egressTransmissionStart .field) s).powerOf 1).holding = none
      ∧ ((after (.egressTransmissionStart .field) s).powerOf 1).lastSent = 300 := by decide +kernel

/-- Section 5.11, seconds 7,000.30 to 7,000.51 (R97, transmission taken first), with a second pulpit frame waiting: the URGENT holding
of 300 leaves before it, CLAMPED clear. -/
theorem test_shed_during_a_pulpit_frame :
    let s := after .ageTimerExpiry (after (.egressTransmissionStart .field) (pulpitWaits [pulpitFrame, pulpitFrame]))
    (s.powerOf 1).holding = some { value := 300, urgent := true } ∧ (s.powerOf 1).lastSent = 4403
      ∧ leavesField (after (.transmissionEnd .field) s) = some (.setpoint 1, [0, 0x2C, 0x01]) := by decide +kernel

/-- Section 7.8: the order of CLEAR_TRIP and RESTORE_POWER. -/
theorem test_restore_and_clear_replies :
    ((after (.restorePower 2 1 2) (cutShop true false)).resp.replies.map (·.payload)) = [[0x42, 1, Status.causePresent.code, 0, 5]]
      ∧ ((after (.clearTrip 2 1 5) (cutShop true true)).resp.replies.map (·.payload)) = [[0x41, 1, Status.causePresent.code, 0]]
      ∧ ((after (.clearTrip 2 1 5) (cutShop false false)).resp.replies.map (·.payload)) = [[0x41, 1, Status.notRead.code, 0]]
      ∧ (after (.clearTrip 2 1 5) (cutShop false true)).trip.records[(4 : TripRow)].state = .idle
      ∧ (after (.clearTrip 2 1 5) (cutShop false true)).permitOf 1 = .cut
      ∧ (after (.restorePower 2 1 2) restorable).permitOf 1 = .permitted := by decide +kernel

/-- R122: a FURNACE swap takes F2 out of service while it is SHED; its permit is not changed. -/
theorem test_absent_furnace_keeps_its_permit :
    let s := shedShop
    let gone := { s with store := { s.store with furnace :=
      { s.store.furnace.setShadow (s.store.furnace.active.set 1 {}) with swapPending := true } } }
    s.permitOf 1 = .shed ∧ (after .allocationPeriodExpiry gone).configured 1 = false
      ∧ (after .allocationPeriodExpiry gone).permitOf 1 = .shed := by decide +kernel

/-- Section 7.8, seconds 70,000 and 70,053: shop stop and restoration. -/
theorem test_shop_stop_and_restore :
    stopped.store.mode = .shopStop ∧ (stopped.powerOf 1).inForce = 0
      ∧ (after (.restoreShop 2 1) (after .estopNDeassertion stopped)).store.mode = .running := by decide +kernel

/-- Section 8.10, second 9,002: the grant, its tare and its tilt permit. -/
theorem test_grant :
    granted.tap.station.state = .granted ∧ granted.tap.station.tare = 1850 ∧ (granted.heatOf 0).map (·.stage) = some .tapping
      ∧ (granted.powerOf 0).inForce = 0 ∧ granted.tap.tiltHolding.map (·.on) = some true := by decide +kernel

/-- Section 8.10, seconds 9,031.4 and 9,190.4: the pour starts above 30, and completes at 6,100 kg. -/
theorem test_pour :
    pouring.tap.station.state = .pouring
      ∧ ((after (.pourReport .field 2 40 [20, 0, 0x0E, 0x1F]) pouring).heatOf 0).map (fun h => (h.bathMass, h.stage)) = some (2900, .holding) := by
  decide +kernel

/-- R140, R144: at the completion of a pour the station is granted to the queued furnace that is ready. -/
theorem test_completion_grants_the_next :
    (after (.pourReport .field 2 40 [20, 0, 0x0E, 0x1F]) pouringWithNext).tap.station.grant
      = some { furnace := 1, heatId := 13, second := 7000 } := by decide +kernel

/-- R33, R37: a pour that leaves less than the heel minimum closes the heat EMPTIED. -/
theorem test_pour_empties :
    let t := after (.pourReport .field 2 40 [20, 0, 0x0E, 0x2F]) pouring
    t.heatOf 0 = none ∧ t.heat.closedLog.map (fun e => (e.reason, e.pouredTotal)) = [(.emptied, 9000)] := by decide +kernel

/-- R170: cold reset with ESTOP_N asserted starts with the latch set, cause PIN. -/
theorem test_cold_reset_samples_estop :
    (after .coldReset stopped).trip.stopLatch = true ∧ (after .coldReset stopped).store.mode = .unconfigured := by decide +kernel

/-- R162 step 1, R168: a full reply queue is counted while a warm reset is pending too. -/
theorem test_overflow_counts_under_warm_reset :
    let full := { running with resp := { running.resp with replies := List.replicate 4 pulpitFrame, warmPending := true } }
    (after (.readTap 2 1 0) full).resp.replyOverflow = 1
      ∧ (after (.readTap 2 1 0) (resetDue running)).resp = (resetDue running).resp := by decide +kernel

/-- The bounds of R3 to R9, one field of each table at its last value and past it: the swap names the entry and the field. -/
theorem test_range_bounds :
    ((shopRow.inRanges, { shopRow with requestLifetime := 30 }.inRanges, { shopRow with requestLifetime := 31 }.inRanges) = (true, true, false)
      ∧ ({ unitRow 126 1 2 with rating := 30000 }.inRanges, { unitRow 127 1 2 with rating := 30000 }.inRanges) = (true, false)
      ∧ ({ furnaceRow 1 1 1 400 with ramp := 50 }.inRanges, { furnaceRow 1 1 1 400 with ramp := 49 }.inRanges) = (true, false)
      ∧ ({ programmeRow with dipValidity := 1800 }.inRanges, { programmeRow with dipValidity := 1801 }.inRanges) = (true, false))
      ∧ ({ channelRow 0 0 1 0 0 with rawMin := 0 }.inRanges, { channelRow 0 0 1 0 0 with rawMin := 1 }.inRanges) = (true, false)
      ∧ ({ circuitRow with ownerNumber := 6 }.inRanges, { circuitRow with ownerNumber := 7 }.inRanges) = (true, false)
      ∧ ({ faultRow 3 0 with persistence := 15 }.inRanges, { faultRow 4 0 with persistence := 15 }.inRanges) = (true, false) := by decide +kernel

/-- Eleven frames wait for FIELD, and PLANT, which feeds them, sends a frame or sends none. -/
def nearlyFull (sending : Bool) : State :=
  (running.setQueueTo .field (List.replicate 11 pulpitFrame)).modifyPort .plant fun x =>
    { x with tx := if sending then some { source := .status, frame := pulpitFrame } else none }

/-- R151, R157: at the twelfth frame hold sent is set; the HOLD leaves at once between frames, and during a frame at its end. -/
theorem test_hold_waits_for_the_gap :
    let controls := fun (s : State) => (s.link.plant.holdSent, s.link.plant.controls, s.link.plant.controlSent)
    let arrival := Instr.windowSync .plant 2 11 []
    controls (after arrival (nearlyFull false)) = (true, [], some .hold)
      ∧ controls (after arrival (nearlyFull true)) = (true, [.hold], none)
      ∧ controls (after (.transmissionEnd .plant) (after arrival (nearlyFull true))) = (true, [], some .hold)
      ∧ controls (after (.livenessTimerExpiry .field) (after arrival (nearlyFull true))) = (false, [.hold, .go], none) := by
  decide +kernel

/-- R161: at a warm reset a GO is sent on the port whose hold sent is set. -/
theorem test_warm_reset_sends_go :
    let t := after .warmResetTaken (resetDue (after (.windowSync .plant 2 11 []) (nearlyFull false)))
    t.link.plant = { PortState.cold with controlSent := some .go } ∧ t.link.field = PortState.cold := by decide +kernel

/-- R166: a status frame has 98 payload bytes. -/
theorem test_status_length : (after .statusTimerExpiry atWork).resp.statusHolding.map (·.payload.length) = some 98 := by decide +kernel

/-- The opcode table gives no bits (log 25). -/
theorem test_no_word_spells_a_command (nbits w : Nat) : decodeTableWord nbits w = none ∧ running.withFetchWord nbits w = running := ⟨rfl, rfl⟩

/-! ### Witnesses: every hypothesis of every obligation is met, clause by clause -/

/-- RESET_N is held low. -/
def heldLow : State := after .resetNAssertion running

theorem witness_OnlyTickAndPins : running.resetLow = false ∧ Instr.plantSilence ≠ .shopClockTick ∧ Instr.plantSilence ≠ .coldReset
    ∧ Instr.plantSilence ≠ .estopNAssertion ∧ Instr.plantSilence ≠ .estopNDeassertion ∧ Instr.plantSilence ≠ .resetNAssertion := by decide

theorem witness_ResetPin : (running.estopAsserted = false ∧ stopped.estopAsserted = true)
    ∧ (heldLow.resetLow = true ∧ Instr.plantSilence ≠ .coldReset ∧ Instr.plantSilence ≠ .estopNAssertion
      ∧ Instr.plantSilence ≠ .estopNDeassertion) := by decide +kernel

theorem witness_EstopAssertion :
    (granted.resetLow = false ∧ granted.estopAsserted = false ∧ granted.trip.stopLatch = false)
      ∧ (granted.tap.station.state = .granted ∧ granted.tap.station.grant = some { furnace := 0, heatId := 12, second := 7000 })
      ∧ (running.trip.stopLatch = false ∧ running.tap.station.state ≠ .granted)
      ∧ (stoppedByRow.resetLow = false ∧ stoppedByRow.estopAsserted = false ∧ stoppedByRow.trip.stopLatch = true) := by decide +kernel

theorem witness_Symbols : (running.resetLow = false ∧ State.reset.resetLow = false)
    ∧ ((State.reset.port .plant).up = false ∧ (State.reset.port .field).up = false)
    ∧ LineSymbol.frameEnd ∈ ([.idle, .go, .frameEnd] : List LineSymbol) := by decide

/-- A WARM_RESET has been answered; its reply leaves PLANT. -/
def warmAnswered : State := after (.egressTransmissionStart .plant) (after (.warmReset 2 1) running)

theorem witness_Liveness : (running.resetLow = false ∧ running.link.field.liveness = true)
    ∧ (running.link.plant.liveness = true ∧ running.resp.warmPending = false)
    ∧ (State.reset.port .field).liveness = false
    ∧ (warmAnswered.resp.warmPending = true ∧ warmReplyUnderWay (after .warmResetTaken warmAnswered) = false) := by decide +kernel

/-- A port in a chosen egress state. -/
def withPort (p : Port) (g : PortState → PortState) (s : State) : State := s.modifyPort p g

theorem witness_PlantEgress :
    (State.reset.resetLow = false ∧ (State.reset.port .plant).up = false)
      ∧ ((withPort .field (fun x => { x with heldOff := true }) running).port .field).heldOff = true
      ∧ ((withPort .field (fun x => { x with tx := some { source := .status, frame := pulpitFrame } }) running).port .field).tx.isSome = true
      ∧ (running.link.plant.up = true ∧ running.link.plant.heldOff = false ∧ running.link.plant.tx = none)
      ∧ (let s := withReply running pulpitFrame
        s.link.plant.tx = none ∧ s.resp.replies = pulpitFrame :: [] ∧ s.link.toPlant = [])
      ∧ (let s := withPort .plant (fun x => { x with lastServed := .forwarded }) ((withReply running pulpitFrame).setQueueTo .plant [pulpitFrame])
        s.resp.replies = pulpitFrame :: [] ∧ s.link.plant.lastServed = .forwarded ∧ s.link.plant.tx = none)
      ∧ (let s := { running with resp := { running.resp with statusHolding := some pulpitFrame } }
        s.resp.replies = [] ∧ s.resp.statusHolding = some pulpitFrame ∧ s.link.toPlant = [])
      ∧ (let s := (withReply running pulpitFrame).setQueueTo .plant [pulpitFrame, pulpitFrame]
        s.link.toPlant = pulpitFrame :: [pulpitFrame] ∧ s.link.plant.lastServed = .originated ∧ s.link.plant.tx = none)
      ∧ (let s := running.setQueueTo .plant [pulpitFrame]
        s.link.toPlant = pulpitFrame :: [] ∧ s.resp.replies = [] ∧ s.resp.statusHolding = none)
      ∧ (running.resp.replies = [] ∧ running.resp.statusHolding = none ∧ running.link.toPlant = []) := by decide +kernel

/-- A shop with an URGENT setpoint for F2. -/
def urgentShop : State := atWork.setPower 1 { power 4403 none with lastSent := 5000, holding := some { value := 4403, urgent := true } }

/-- A shop with a NORMAL setpoint for F2, a pulpit frame waiting, and FORWARDED served last. -/
def normalShop : State :=
  let s := atWork.setPower 1 { power 4403 none with lastSent := 4000, holding := some { value := 4403, urgent := false } }
  (s.setQueueTo .field [pulpitFrame]).modifyPort .field fun x => { x with lastServed := .forwarded }

theorem witness_FieldEgress :
    (∀ urgent ∈ [true, false],
      let s := { running with tap := { running.tap with tiltHolding := some { on := true, urgent := urgent, furnace := 0, heatId := 12 } } }
      s.resetLow = false ∧ s.link.field.up = true ∧ s.link.field.heldOff = false ∧ s.link.field.tx = none
        ∧ s.tap.tiltHolding = some { on := true, urgent := urgent, furnace := 0, heatId := 12 }
        ∧ (∀ g : Furnace, (s.powerOf g).holding = none) ∧ s.link.toField = [])
      ∧ (∀ s ∈ [urgentShop, normalShop, { normalShop with store := { normalShop.store with mode := .unconfigured } }],
        let urgent := decide (s = urgentShop)
        s.resetLow = false ∧ s.link.field.up = true ∧ s.link.field.heldOff = false ∧ s.link.field.tx = none
          ∧ (∀ t ∈ s.tap.tiltHolding, t.urgent = !urgent) ∧ (s.powerOf 1).holding = some { value := 4403, urgent := urgent } ∧ 4403 ≤ 65535
          ∧ (∀ g : Furnace, g < 1 → ∀ k ∈ (s.powerOf g).holding, k.urgent = !urgent)
          ∧ (s.furnaceEntry 1).unitIndex = some 0 ∧ s.fedBy s.store.unit.active[(0 : PowerUnit)].node (s.furnaceEntry 1).output = some 1)
      ∧ ((∀ t ∈ normalShop.tap.tiltHolding, t.urgent = false) ∧ (∀ g : Furnace, ∀ k ∈ (normalShop.powerOf g).holding, k.urgent = false)
        ∧ normalShop.link.toField = [pulpitFrame] ∧ normalShop.link.field.lastServed = .forwarded)
      ∧ (let s := (after .ageTimerExpiry (pulpitWaits [pulpitFrame])).setQueueTo .field [{ pulpitFrame with dst := 22 }]
        (s.powerOf 1).holding = some { value := 300, urgent := true, yields := true } ∧ ¬ PowerSetNext s 1) := by decide +kernel

theorem witness_ForwardedPowerSet :
    (∀ fr ∈ [pulpitFrame, { pulpitFrame with kind := 0x46 }, { pulpitFrame with dst := 99 }], ∀ served ∈ [Served.originated, .forwarded],
      let s := (atWork.setQueueTo .field [fr]).modifyPort .field fun x => { x with lastServed := served }
      s.resetLow = false ∧ s.link.field.up = true ∧ s.link.field.heldOff = false ∧ s.link.field.tx = none
        ∧ s.link.toField = fr :: [] ∧ s.link.field.lastServed = served
        ∧ s.tap.tiltHolding = none ∧ ∀ g : Furnace, (s.powerOf g).holding = none)
      ∧ atWork.fedBy 21 2 = some 1 ∧ atWork.fedBy 99 2 = none
      ∧ (∀ m ∈ [Mode.running, .unconfigured], ({ atWork with store := { atWork.store with mode := m } } : State).fedBy 21 2 = some 1)
      ∧ (∀ urgent ∈ [true, false],
        let h : SetpointHolding := { value := 300, urgent := urgent, yields := true }
        let s := (atWork.setPower 1 { power 4403 none with holding := some h }).setQueueTo .field [pulpitFrame]
        PowerSetFor s 1 pulpitFrame ∧ s.link.toField = pulpitFrame :: [] ∧ (s.powerOf 1).holding = some h ∧ s.tap.tiltHolding = none
          ∧ ∀ g : Furnace, g ≠ 1 → (s.powerOf g).holding = none) := by
  decide +kernel

theorem witness_LoweringMeetsStart :
    ∀ lastSent ∈ [4403, 300, 200], ∀ setpoint ∈ [(0x70 : Byte), 0x64],
      let fr := { pulpitFrame with payload := [2, 0, setpoint, if setpoint = 0x70 then 0x17 else 0] }
      let s := { (atWork.setPower 1 { power 4403 none with lastSent := lastSent }).setQueueTo .field [fr, pulpitFrame] with
        trip := { atWork.trip with permits := atWork.trip.permits.set 1 .shed } }
      s.resetLow = false ∧ s.link.field.up = true ∧ s.link.field.heldOff = false ∧ s.link.field.tx = none
        ∧ s.link.toField = fr :: [pulpitFrame] ∧ PowerSetFor s 1 fr ∧ s.store.mode ≠ .unconfigured ∧ s.configured 1 = true
        ∧ capOf s 1 = 300 ∧ 300 < (s.powerOf 1).inForce ∧ s.tap.tiltHolding = none ∧ (∀ g : Furnace, (s.powerOf g).holding = none)
        ∧ s.link.field.lastServed = .originated
        ∧ (after (.egressTransmissionStart .field) (lowerToCap s 1)).link.field.tx.isSome = true := by decide +kernel

theorem witness_PowerSetLeaves :
    let s := atWork.setQueueTo .field [pulpitFrame]
    exec (.egressTransmissionStart .field) s = .next (after (.egressTransmissionStart .field) s) ∧ s.link.field.tx = none
      ∧ (after (.egressTransmissionStart .field) s).link.field.tx =
        some { source := .forwarded, frame := { pulpitFrame with payload := [2, 1, 0x88, 0x13] } } := ⟨rfl, rfl, by decide +kernel⟩

theorem witness_WarmResetEvents :
    (warmAnswered.resetLow = false ∧ warmAnswered.resp.warmPending = true ∧ warmReplyUnderWay warmAnswered = true)
      ∧ warmAnswered.link.plant.liveness = true
      ∧ running.resp.warmPending = false
      ∧ (let s := after (.warmReset 2 1) running
        s.resp.warmPending = true ∧ warmReplyUnderWay s = false ∧ s.link.plant.up = true) := by decide +kernel

theorem witness_WarmResetKeeps :
    (warmAnswered.resetLow = false ∧ warmAnswered.resp.warmPending = true ∧ warmReplyUnderWay warmAnswered = true
        ∧ warmAnswered.tap.station.state ≠ .granted)
      ∧ (let s := resetDue granted
        s.resp.warmPending = true ∧ s.link.plant.up = false ∧ s.tap.station.state = .granted
          ∧ s.tap.station.grant = some { furnace := 0, heatId := 12, second := 7000 }) := by decide +kernel

/-- The bytes parse to a frame, as a Bool. -/
def parsesTo (bytes : List Byte) (fr : Frame) : Bool :=
  match Frame.parse bytes with
  | .ok x => decide (x = fr)
  | .error _ => false

theorem parse_of_parsesTo {bytes : List Byte} {fr : Frame} (h : parsesTo bytes fr = true) : Frame.parse bytes = .ok fr := by
  unfold parsesTo at h
  split at h
  · next e => rw [e, of_decide_eq_true h]
  · cases h

theorem witness_FrameLayout : (List.replicate 120 (0 : Byte)).length ≤ 120
    ∧ Frame.parse pulpitFrame.bytes = .ok pulpitFrame
    ∧ Frame.parse (Frame.bytes { pulpitFrame with payload := [] }) = .ok { pulpitFrame with payload := [] } :=
  ⟨by decide, parse_of_parsesTo (by decide +kernel), parse_of_parsesTo (by decide +kernel)⟩

theorem witness_CommandsAreTheirFrames : (List.replicate 120 (0 : Byte)).length ≤ 120 ∧ (List.replicate 119 (0 : Byte)).length ≤ 119 := by decide

theorem witness_FramesNotRead :
    running.resetLow = false
      ∧ (byteAt [] 0 ≠ 0x7E ∧ 120 < (byteAt [0x7E, 1, 2, 3, 121] 4).toNat
        ∧ [0x7E, 1, 2, 3, (0 : Byte)].length ≠ 7 + (byteAt [0x7E, 1, 2, 3, 0] 4).toNat)
      ∧ (let bytes : List Byte := [0x7E, 1, 2, 3, 0, 0, 0]
        byteAt bytes 0 = 0x7E ∧ (byteAt bytes 4).toNat ≤ 120 ∧ bytes.length = 7 + (byteAt bytes 4).toNat
          ∧ bytes.drop 5 ≠ le16 (crc16 ((bytes.drop 1).take 4)))
      ∧ (pulpitFrame.payload.length ≤ 120 ∧ running.shopEntry.partAddress = 100 ∧ (0x22 : Byte) ≠ 0x68 ∧ (99 : Byte) ≠ running.shopEntry.partAddress)
      ∧ ([1, 2, 3] : List Byte).length ≠ 4 ∧ ([] : List Byte).length ≠ 4
      ∧ NotRead 0x46 ∧ NotRead 0x68 := by decide +kernel

theorem witness_RequestsAndReports : running.resetLow = false ∧ (21 : Byte) ≠ running.shopEntry.partAddress
    ∧ (2 : Byte) ≠ running.shopEntry.partAddress ∧ running.fedBy 21 2 = some 1 ∧ running.fedBy 21 0 = none ∧ running.fedBy 21 3 = none
    ∧ ([0, 0] : List Byte).length ≠ 3 ∧ (List.replicate 120 (0 : Byte)).length ≠ 3 := by decide +kernel

theorem witness_DipStart : atWork.resetLow = false ∧ (2 : Byte) ≠ atWork.shopEntry.partAddress ∧ atWork.configured 0 = true
    ∧ (after (.dipEventStart .field 2 50 [1]) atWork).powerOf 0 ≠ atWork.powerOf 0 := by decide +kernel

theorem witness_DipEnds : atWork.resetLow = false ∧ (2 : Byte) ≠ atWork.shopEntry.partAddress
    ∧ (atWork.configured 3 = true ∧ atWork.heatOf 3 = some (heatIn .superheat 14 9000 12000))
    ∧ (running.configured 3 = true ∧ running.heatOf 3 = none)
    ∧ (([] : List Byte).length ≠ 1 ∧ (List.replicate 119 (0 : Byte)).length ≤ 119 ∧ ([1, 2] : List Byte).length ≠ 3)
    ∧ (∀ f : Furnace, (0 : Byte) = numberByte f → atWork.configured f = false)
    ∧ (∀ f : Furnace, (5 : Byte) = numberByte f → atWork.configured f = false)
    ∧ (∀ f : Furnace, (7 : Byte) = numberByte f → atWork.configured f = false)
    ∧ (∀ e ∈ ([] : List Byte).head?, 2 < e.toNat) ∧ (∀ e ∈ ([3, 1] : List Byte).head?, 2 < e.toNat)
    ∧ (List.replicate 120 (255 : Byte)).length ≤ 120 ∧ (∀ e ∈ (List.replicate 120 (255 : Byte)).head?, 2 < e.toNat) := by decide +kernel

theorem witness_WindowSync : running.resetLow = false ∧ (1 : Byte) ≠ running.shopEntry.partAddress
    ∧ running.shopEntry.windowMode = 0 ∧ (withShop (fun e => { e with windowMode := 1 }) running).shopEntry.windowMode = 1
    ∧ (withShop (fun e => { e with windowMode := 2 }) running).shopEntry.windowMode = 2 := by decide +kernel

theorem witness_PourReport : granted.resetLow = false ∧ (2 : Byte) ≠ granted.shopEntry.partAddress ∧ (40 : Byte) = granted.shopEntry.pourNode
    ∧ running.tap.station.state = .free
    ∧ (granted.tap.station.state = .granted ∧ ((0 : Byte) ++ (30 : Byte) : Half).toNat ≤ granted.shopEntry.restAngle.toNat
      ∧ granted.shopEntry.restAngle.toNat < ((0 : Byte) ++ (31 : Byte) : Half).toNat)
    ∧ (pouring.tap.station.state = .pouring ∧ pouring.tap.station.grant = some { furnace := 0, heatId := 12, second := 7000 }
      ∧ (pouring.heatOf 0).isSome = true
      ∧ ∀ h ∈ pouring.heatOf 0, (pouring.furnaceEntry 0).heelMinimum.toNat
          ≤ h.bathMass - min (((0x1F : Byte) ++ (0x0E : Byte) : Half).toNat - pouring.tap.station.tare) h.bathMass
        ∧ h.bathMass - min (((0x2F : Byte) ++ (0x0E : Byte) : Half).toNat - pouring.tap.station.tare) h.bathMass
          < (pouring.furnaceEntry 0).heelMinimum.toNat)
    ∧ ([] : List Byte).length ≠ 4 ∧ (List.replicate 120 (0 : Byte)).length ≤ 120
    ∧ (41 : Byte) ≠ granted.shopEntry.pourNode := by decide +kernel

theorem witness_Reading : let e := channelRow 0 0 512 0 0
    1024 * (-2) ≤ (-3) * e.gain.toInt ∧ (-3) * e.gain.toInt < 1024 * ((-2) + 1) := by decide

/-- T5 watches the flow of C4; a reading of C4's inlet does not touch it. -/
theorem inlet_reading_touches_no_flow (c : Circuit) : ¬ Touches running 31 [1, 0, 0xDC, 0x05] c .flow := by
  have goes : readingGoesTo running 31 1 ((0x05 : Byte) ++ (0xDC : Byte) : Half).toInt = some (3, .inlet, 350) := by decide +kernel
  rintro (⟨p, v, h, rfl | ⟨h', _⟩⟩ | h)
  · rw [goes] at h; cases h
  · cases h'
  · exact h

theorem witness_Sample : (running.resetLow = false ∧ (2 : Byte) ≠ running.shopEntry.partAddress)
    ∧ (([1, 0, 0xDC, 0x05] : List Byte).length % 4 = 0 ∧ (List.replicate 116 (0 : Byte)).length ≤ 116)
    ∧ (∀ (k : TripRow) (c : Circuit), (rowInForce running k).present ≠ 0 → inScope running (rowInForce running k) c = true →
        ¬ Touches running 31 [1, 0, 0xDC, 0x05] c (rowInForce running k).watches)
    ∧ ([1] : List Byte).length % 4 ≠ 0 ∧ (116 < (List.replicate 120 (0 : Byte)).length ∧ (List.replicate 120 (0 : Byte)).length ≤ 120) :=
  ⟨by decide +kernel, by decide, fun k c hp _ => by
    have flow : ∀ k : TripRow, (rowInForce running k).present ≠ 0 → (rowInForce running k).watches = .flow := by decide +kernel
    rw [flow k hp]; exact inlet_reading_touches_no_flow c, by decide, by decide⟩

/-- Four replies wait. -/
def fullReplies : State := { running with resp := { running.resp with replies := List.replicate 4 pulpitFrame } }

theorem witness_RequestsTaken : Serving running ∧ (List.replicate 118 (0 : Byte)).length ≤ 118
    ∧ (((0x70 : Byte), 0) ∈ requestLengths ∧ ([1] : List Byte).length ≠ 0)
    ∧ ((0x00 : Byte) ≠ 0x01 ∧ (0x00 : Byte) ∉ requestLengths.map (·.1)) ∧ (0x71 : Byte) ∉ requestLengths.map (·.1)
    ∧ ([1, 2] : List Byte).length < 3
    ∧ (fullReplies.resp.warmPending = false ∧ 4 ≤ fullReplies.resp.replies.length)
    ∧ ((resetDue running).resp.warmPending = true ∧ (resetDue running).resp.replies.length < 4)
    ∧ ((resetDue fullReplies).resp.warmPending = true ∧ 4 ≤ (resetDue fullReplies).resp.replies.length) := by decide +kernel

theorem witness_HeatRequests : Serving State.reset ∧ Serving atWork
    ∧ namedHeat State.reset 1 12 true = .error .unconfigured ∧ namedHeat atWork 0 12 true = .error .badArg
    ∧ namedHeat atWork 7 12 true = .error .badArg
    ∧ namedHeat atWork 1 12 (decide (1 ≤ (0 : Half).toNat ∧ (0 : Half).toNat ≤ 60000)) = .error .badArg
    ∧ namedHeat atWork 1 12 (decide (1 ≤ (60001 : Half).toNat ∧ (60001 : Half).toNat ≤ 60000)) = .error .badArg
    ∧ namedHeat atWork 1 12 (decide ((0 : Byte) = 1 ∨ (0 : Byte) = 2)) = .error .badArg
    ∧ namedHeat atWork 1 12 (decide ((18001 : Half).toNat ≤ 18000)) = .error .badArg
    ∧ namedHeat atWork 5 12 true = .error .badState ∧ namedHeat atWork 1 11 true = .error .staleHeat :=
  ⟨by decide +kernel, by decide +kernel, rfl, rfl, rfl, rfl, rfl, rfl, rfl, rfl, rfl⟩

/-- A swap of every table is pending. -/
def allPending : State := { running with store := allTables.foldl TableStore.markPending running.store }

theorem witness_TableWrite : Serving running ∧ 1 ≤ (1 : Byte).toNat ∧ (List.replicate 24 (0 : Byte)).length ≤ 115
    ∧ ((0 : Byte).toNat < 1 ∧ 7 < (8 : Byte).toNat)
    ∧ (TableId.ofByte 1 = some .shop ∧ TableId.ofByte 7 = some .trip)
    ∧ (¬ (TableId.trip.firstNumber ≤ (33 : Byte).toNat ∧ (33 : Byte).toNat + (1 : Byte).toNat ≤ TableId.trip.firstNumber + TableId.trip.entries))
    ∧ (TableId.trip.firstNumber ≤ (32 : Byte).toNat ∧ (32 : Byte).toNat + (1 : Byte).toNat ≤ TableId.trip.firstNumber + TableId.trip.entries)
    ∧ ([] : List Byte).length ≠ (1 : Byte).toNat * TableId.trip.entrySize
    ∧ (List.replicate 12 (0 : Byte)).length = (1 : Byte).toNat * TableId.trip.entrySize
    ∧ running.store.swapPendingOf .trip = false ∧ allPending.store.swapPendingOf .trip = true := by decide +kernel

/-- The state with its table store changed. -/
def shadowed (g : TableStore → TableStore) (s : State) : State := { s with store := g s.store }

/-- A shadow of the UNIT or the FURNACE table. -/
def withUnitShadow (t : TableStore) (x : Vector UnitEntry 3) : TableStore := { t with unit := t.unit.setShadow x }

def withFurnaceShadow (t : TableStore) (x : Vector FurnaceEntry 6) : TableStore := { t with furnace := t.furnace.setShadow x }

theorem shadowValid_furnace {t : TableStore} (h : ∀ f : Furnace, FurnaceValid t f) : ShadowValid t .furnace := fun _ _ f _ => h f

theorem shadowValid_unit {t : TableStore} (h : ∀ u : PowerUnit, UnitValid t u) : ShadowValid t .unit := fun _ _ u _ => h u

theorem shadowValid_programme {t : TableStore}
    (h : ∀ q : Fin 8, t.programme.shadow[q].present ≠ 0 → t.programme.shadow[q].inRanges = true) : ShadowValid t .programme :=
  fun _ _ q _ => h q

theorem shadowValid_trip {t : TableStore} (h : ∀ r : TripRow, t.trip.shadow[r].present ≠ 0 → t.trip.shadow[r].inRanges = true) :
    ShadowValid t .trip := fun _ _ r _ => h r

/-- An entry fails the checks of R11 step 3 at a position where the entries before it pass them. -/
def firstFault (t : TableStore) (id : TableId) (i : Nat) : Prop :=
  i < id.entries ∧ ¬ EntryValid t id i ∧ ∀ j : Nat, j < i → EntryValid t id j

/-- A TRIP bank whose last row names no action. -/
def lateTrips : Vector TripEntry 32 := running.store.trip.active.set 31 (faultRow 4 0)

theorem lateTrips_before : ∀ r : TripRow, r.val < 31 → lateTrips[r].present ≠ 0 → lateTrips[r].inRanges = true := by decide +kernel

/-- A first fault for a table, at its first or its last entry. -/
theorem witness_InvalidEntries :
    firstFault State.reset.store .shop 0
      ∧ firstFault (withUnitShadow running.store (running.store.unit.active.set 2 (unitRow 23 1 2))) .unit 2
      ∧ firstFault (withFurnaceShadow running.store (rows (furnaceRow 1 2 1 100))) .furnace 4
      ∧ firstFault { running.store with trip := running.store.trip.setShadow lateTrips } .trip 31 := by
  refine ⟨⟨by decide, ?_, fun j h => absurd h (by omega)⟩, ⟨by decide, ?_, fun j _ => ?_⟩, ⟨by decide, ?_, fun j _ => ?_⟩,
    ⟨by decide, ?_, fun j _ => ?_⟩⟩
  · exact fun h => absurd h.1 (by decide +kernel)
  · exact fun h => absurd (h 2 rfl) (by decide +kernel)
  · exact fun u hu => (by decide +kernel : ∀ u : PowerUnit, u.val < 2 → UnitValid _ u) u (by omega)
  · exact fun h => absurd (h 4 rfl) (by decide +kernel)
  · exact fun f hf => (by decide +kernel : ∀ f : Furnace, f.val < 4 → FurnaceValid _ f) f (by omega)
  · exact fun h => absurd (h 31 rfl) (by decide +kernel)
  · exact fun r hr => lateTrips_before r (by omega)

/-- F1, in which a heat is open, leaves service; U2 moves to another output 1 that F5 names too; U1 drops its output 2. -/
theorem witness_RefusedSwap : Serving atWork ∧ (Serving allPending ∧ allPending.store.swapPendingOf .shop = true)
    ∧ (let s := shadowed (withFurnaceShadow · ((rows {}).set 0 {})) atWork
      Serving s ∧ s.store.swapPendingOf .furnace = false ∧ ShadowValid s.store .furnace ∧ FurnaceMoved s 0)
    ∧ (let s := shadowed (withUnitShadow · #v[{}, {}, {}]) atWork
      s.store.swapPendingOf .unit = false ∧ ShadowValid s.store .unit ∧ UnitMoved s 0 ∧ s.store.unit.shadow[(0 : PowerUnit)].present = 0)
    ∧ (let s := shadowed (withUnitShadow · #v[unitRow 21 1 0, unitRow 22 3 4, {}]) atWork
      ShadowValid s.store .unit ∧ UnitMoved s 0 ∧ s.store.unit.shadow[(0 : PowerUnit)].present ≠ 0
        ∧ ¬ (FeedsAHeat s 0 1 ∧ s.store.unit.shadow[(0 : PowerUnit)].output1 ≠ s.store.unit.active[(0 : PowerUnit)].output1))
    ∧ (let s := shadowed (fun t => withUnitShadow { t with furnace := swapped (rows (furnaceRow 2 1 1 300)) } #v[unitRow 21 1 2, unitRow 22 5 4, {}]) atWork
      ShadowValid s.store .unit ∧ (∀ v : PowerUnit, v < 1 → ¬ UnitMoved s v) ∧ UnitMoved s 1
        ∧ s.store.unit.shadow[(1 : PowerUnit)].present ≠ 0 ∧ FeedsAHeat s 1 1
        ∧ s.store.unit.shadow[(1 : PowerUnit)].output1 ≠ s.store.unit.active[(1 : PowerUnit)].output1)
    ∧ (let s := shadowed (fun t => { t with programme := t.programme.setShadow (Vector.replicate 8 {}) }) atWork
      Serving s ∧ s.store.swapPendingOf .programme = false ∧ ShadowValid s.store .programme
        ∧ s.heatOf 0 = some (heatIn .holding 12 9000 14800) ∧ s.store.programme.shadow[(0 : Fin 8)].present = 0) := by
  refine ⟨by decide +kernel, by decide +kernel, ⟨by decide +kernel, by decide +kernel, shadowValid_furnace (by decide +kernel), by decide +kernel⟩,
    ⟨by decide +kernel, shadowValid_unit (by decide +kernel), by decide +kernel, by decide +kernel⟩,
    ⟨shadowValid_unit (by decide +kernel), by decide +kernel, by decide +kernel, by decide +kernel⟩,
    ⟨shadowValid_unit (by decide +kernel), by decide +kernel, by decide +kernel, by decide +kernel, by decide +kernel, by decide +kernel⟩,
    ⟨by decide +kernel, by decide +kernel, shadowValid_programme (by decide +kernel), by decide +kernel, by decide +kernel⟩⟩

/-- UNCONFIGURED before the first CIRCUIT swap, which brings C5 into service. -/
def awaitingCircuit : State :=
  shadowed (fun t => { t with
    mode := .unconfigured, circuit := { t.circuit.setShadow (t.circuit.active.set 4 circuitRow) with swapCount := 0 } }) running

/-- UNCONFIGURED before a FURNACE swap that takes F4 out of service. -/
def awaitingFurnace : State :=
  shadowed (fun t => { withFurnaceShadow t (t.furnace.active.set 3 {}) with mode := .unconfigured }) running

theorem shadowValid_circuit {t : TableStore}
    (h : ∀ c : Circuit, t.circuit.shadow[c].present ≠ 0 → t.circuit.shadow[c].inRanges = true) : ShadowValid t .circuit :=
  fun _ _ c _ => h c

theorem witness_SwapInUnconfigured :
    (let s := awaitingCircuit
     Serving s ∧ ShadowValid s.store .circuit ∧ s.store.swapPendingOf .circuit = false ∧ HeatsAllow s .circuit
        ∧ (ConfigSound s ∧ PowerSound s ∧ TapSound s) ∧ s.cool.circuits[(4 : Circuit)].present = false
        ∧ (after (.tableSwap 2 1 6) s).cool.circuits[(4 : Circuit)].present = true ∧ (after (.tableSwap 2 1 6) s).store.mode = .running)
      ∧ (let s := awaitingFurnace
         Serving s ∧ ShadowValid s.store .furnace ∧ s.store.swapPendingOf .furnace = false ∧ HeatsAllow s .furnace
          ∧ (ConfigSound s ∧ PowerSound s ∧ TapSound s) ∧ s.configured 3 = true ∧ (after (.tableSwap 2 1 3) s).configured 3 = false) := by
  refine ⟨⟨by decide +kernel, shadowValid_circuit (by decide +kernel), by decide +kernel, trivial, ⟨by decide +kernel, by decide +kernel, by decide +kernel⟩, by decide +kernel, by decide +kernel, by decide +kernel⟩,
    by decide +kernel, shadowValid_furnace (by decide +kernel), by decide +kernel, ?_, ⟨by decide +kernel, by decide +kernel, by decide +kernel⟩, by decide +kernel, by decide +kernel⟩
  exact (by decide +kernel : ∀ f : Furnace, ¬ FurnaceMoved awaitingFurnace f)

theorem witness_AcceptedSwap :
    (∀ s ∈ [running, atWork, shadowed (fun t => { t with mode := .unconfigured }) running],
      Serving s ∧ TableId.ofByte 7 = some .trip ∧ s.store.swapPendingOf .trip = false ∧ ShadowValid s.store .trip ∧ HeatsAllow s .trip)
      ∧ (ShadowValid atWork.store .furnace ∧ HeatsAllow atWork .furnace ∧ atWork.store.swapPendingOf .furnace = false)
      ∧ (let s := shadowed (fun t => { t with
            mode := .unconfigured, trip := { t.trip.setShadow (t.trip.shadow.set 4 (faultRow 2 1)) with swapCount := 0 } }) running
        Serving s ∧ ShadowValid s.store .trip ∧ s.store.trip.shadow[(4 : TripRow)].latching ≠ 0) := by
  refine ⟨?_, ⟨shadowValid_furnace (by decide +kernel), ?_, by decide +kernel⟩, by decide +kernel, shadowValid_trip (by decide +kernel), by decide +kernel⟩
  · intro s hs
    simp only [List.mem_cons, List.not_mem_nil, or_false] at hs
    rcases hs with rfl | rfl | rfl <;>
      exact ⟨by decide +kernel, rfl, by decide +kernel, shadowValid_trip (by decide +kernel), trivial⟩
  · exact (by decide +kernel : ∀ f : Furnace, ¬ FurnaceMoved atWork f)

theorem witness_HeatOpen : Serving State.reset ∧ State.reset.store.mode = .unconfigured ∧ Serving atWork ∧ atWork.store.mode ≠ .unconfigured
    ∧ (7 : Byte).toNat > 6 ∧ ((0 : Half).toNat < 1 ∧ 60000 < (60001 : Half).toNat)
    ∧ ((1 : Byte) = numberByte (0 : Furnace) ∧ 1 ≤ (1 : Half).toNat ∧ (60000 : Half).toNat ≤ 60000)
    ∧ atWork.heatOf 0 = some (heatIn .holding 12 9000 14800)
    ∧ (atWork.heatOf 4 = none ∧ atWork.configured 4 = false)
    ∧ (running.heatOf 0 = none ∧ running.configured 0 = true ∧ running.store.moving[(0 : Furnace)] = false ∧ (running.programmeEntry 0).present ≠ 0)
    ∧ ((2 : Fin 8).val = (2 : Byte).toNat ∧ (running.programmeEntry 2).present ≠ 0)
    ∧ (∀ k : Fin 8, k.val = (8 : Byte).toNat → (running.programmeEntry k).present = 0)
    ∧ (∀ k : Fin 8, k.val = (1 : Byte).toNat → (running.programmeEntry k).present = 0) := by decide +kernel

theorem witness_ChargeAdd : Serving atWork ∧ atWork.store.mode ≠ .unconfigured ∧ atWork.heatOf 2 = some (heatIn .melting 57 9000 0)
    ∧ 1 ≤ (1 : Half).toNat ∧ (60000 : Half).toNat ≤ 60000
    ∧ (granted.heatOf 0).map (·.stage) = some .tapping
    ∧ ((heatIn .melting 57 9000 0).stage ≠ .tapping ∧ (heatIn .melting 57 9000 0).charges.length < 16
      ∧ (heatIn .melting 57 9000 0).chargedTotal + min (60000 : Half).toNat (60000 - (heatIn .melting 57 9000 0).bathMass) ≤ 4294967295)
    ∧ (let h : Heat := { heatIn .melting 57 9000 0 with chargedTotal := 4294967295, pouredTotal := 4294958295 }
      (atWork.setHeat 2 (some h)).heatOf 2 = some h ∧ h.stage ≠ .tapping
        ∧ 4294967295 < h.chargedTotal + min (1 : Half).toNat (60000 - h.bathMass))
    ∧ (let last : Charge := { second := 2, mass := 2 }
      let h : Heat := { heatIn .melting 57 9000 0 with charges := List.replicate 15 { second := 1, mass := 1 } ++ [last] }
      (atWork.setHeat 2 (some h)).heatOf 2 = some h ∧ h.charges = List.replicate 15 { second := 1, mass := 1 } ++ [last]
        ∧ 15 ≤ (List.replicate 15 ({ second := 1, mass := 1 } : Charge)).length) := by decide +kernel

theorem witness_HeatClose : Serving granted ∧ granted.store.mode ≠ .unconfigured
    ∧ ((granted.heatOf 0).map (·.stage) = some .tapping)
    ∧ (Serving atWork ∧ atWork.heatOf 0 = some (heatIn .holding 12 9000 14800) ∧ (heatIn .holding 12 9000 14800).stage ≠ .tapping) := by
  decide +kernel

theorem witness_DipsAndHolds : Serving atWork ∧ atWork.store.mode ≠ .unconfigured ∧ atWork.heatOf 0 = some (heatIn .holding 12 9000 14800)
    ∧ (18000 : Half).toNat ≤ 18000 ∧ (heatIn .holding 12 9000 14800).stage = .holding ∧ (heatIn .superheat 14 9000 12000).stage ≠ .holding
    ∧ ((after (.holdSet 2 1 1 12 900 300) atWork).heatOf 0).map (fun h => (h.stage, h.holdMode)) = some (.holding, .directed)
    ∧ ¬ ((heatIn .holding 12 9000 14800).stage = .holding ∧ (heatIn .holding 12 9000 14800).holdMode = .directed) := by decide +kernel

theorem witness_Chemistry : Serving atWork ∧ namedHeat atWork 1 11 true = .error .staleHeat
    ∧ namedHeat atWork 1 12 true = .ok (0, heatIn .holding 12 9000 14800) ∧ namedHeat atWork 3 57 true = .ok (2, heatIn .melting 57 9000 0)
    ∧ (heatIn .holding 12 9000 14800).stage = .holding ∧ (heatIn .melting 57 9000 0).stage = .melting :=
  ⟨by decide +kernel, rfl, rfl, rfl, rfl, rfl⟩

theorem witness_Reads : Serving running ∧ (6 < (7 : Byte).toNat ∧ 1 < (2 : Byte).toNat ∧ 16 < (17 : Byte).toNat)
    ∧ TableId.ofByte 1 = some .shop ∧ TableId.ofByte 7 = some .trip ∧ (0 : Byte).toNat < 1 ∧ 7 < (8 : Byte).toNat := by decide +kernel

/-- Every optional item of the replies of sections 2.7, 4.7, 6.8, 8.8 and 9.8 absent (`running`) and present. -/
theorem witness_Layouts :
    (running.dipWindow 0 = none ∧ running.heatOf 0 = none
        ∧ ((after (.dipEventStart .field 2 50 [1]) atWork).dipWindow 0) = some { start := 7000, length := 20 })
      ∧ (atWork.heatOf 0 = some (heatIn .holding 12 9000 14800) ∧ (heatIn .holding 12 9000 14800).lastDip = none
        ∧ (heatIn .holding 12 9000 14800).chemistry = .none ∧ (heatIn .holding 12 9000 14800).directed = none
        ∧ (heatIn .holding 12 9000 14800).charges[0]? = some { second := 5000, mass := 9000 })
      ∧ (readyShop.heatOf 0 = some readyHeat ∧ readyHeat.lastDip = some { value := 14800, second := 6990, source := .lance }
        ∧ readyHeat.chemistry = .accepted 6900)
      ∧ ((after (.chemRevoke 2 1 1 12) readyShop).heatOf 0).map (·.chemistry) = some .void
      ∧ ((after (.holdSet 2 1 1 12 900 300) atWork).heatOf 0).bind (·.directed)
        = some { power := 900, timer := { start := 7000, length := 300 } }
      ∧ (after (.windowSync .plant 1 3 []) (withShop (fun e => { e with windowMode := 1 }) running)).gov.history[0]?
        = some { number := 0, used := 0, overrun := 0, peak := 0, closedBy := .sync }
      ∧ (running.cool.circuits[(3 : Circuit)].span = none ∧ running.cool.circuits[(0 : Circuit)].spanTimer = none
        ∧ running.cool.circuits[(3 : Circuit)].spanTimer = some { start := 6995, length := 10 }
        ∧ (after (.sample .field 2 31 [0, 0, 0xE8, 0x03]) running).cool.circuits[(3 : Circuit)].span = some { low := 2500, high := 2500 })
      ∧ queued.tap.queue[0]? = some { furnace := 2, heatId := 57, second := 7000 }
      ∧ (running.tap.station.grant = none ∧ running.tap.station.tapTimer = none ∧ running.tap.station.lastReport = none
        ∧ running.tap.station.lastRelease = none)
      ∧ (granted.tap.station.grant = some { furnace := 0, heatId := 12, second := 7000 }
        ∧ granted.tap.station.tapTimer = some { start := 7000, length := 180 }
        ∧ granted.tap.station.lastReport = some { tilt := 0, weight := 1850, second := 6999 })
      ∧ (after (.tapCancel 2 1 1 12) granted).tap.station.lastRelease
        = some { furnace := 0, heatId := 12, second := 7000, outcome := .tapCancelled, overdue := false } := by decide +kernel

theorem witness_TripRecords : Serving running ∧ 32 < (33 : Byte).toNat ∧ (32 : Byte) = numberByte (31 : TripRow) ∧ (5 : Byte) = numberByte (4 : TripRow)
    ∧ running.trip.records[(31 : TripRow)].state ≠ .active
    ∧ ((rowInForce running 31).present = 0 ∧ (rowInForce running 4).present ≠ 0)
    ∧ (let s := cutShop true true
      Serving s ∧ s.trip.records[(4 : TripRow)].state = .active ∧ s.trip.records[(4 : TripRow)].causePresent = true)
    ∧ (let s := cutShop false false
      Serving s ∧ s.trip.records[(4 : TripRow)].state = .active ∧ s.trip.records[(4 : TripRow)].causePresent = false
        ∧ s.trip.records[(4 : TripRow)].readSinceSet = false)
    ∧ (let s := cutShop false true
      Serving s ∧ s.trip.records[(4 : TripRow)].causePresent = false ∧ s.trip.records[(4 : TripRow)].readSinceSet = true ∧ PermitsSound s) := by
  decide +kernel

theorem witness_RestorePower : (Serving running ∧ PermitsSound running ∧ 6 < (7 : Byte).toNat ∧ (6 : Byte) = numberByte (5 : Furnace)
      ∧ running.trip.latchedCuts[(5 : Furnace)] = false)
    ∧ (let s := cutShop false true
      Serving s ∧ PermitsSound s ∧ s.trip.latchedCuts[(1 : Furnace)] = true ∧ activeCovers s s.store.coverBanks .cut 1 4 = true
        ∧ ∀ k : TripRow, k < 4 → ¬ activeCovers s s.store.coverBanks .cut 1 k = true)
    ∧ (let s := restorable
      Serving s ∧ PermitsSound s ∧ s.trip.latchedCuts[(1 : Furnace)] = true
        ∧ ∀ r : TripRow, ¬ activeCovers s s.store.coverBanks .cut 1 r = true) := by decide +kernel

theorem witness_RestoreShop : (Serving running ∧ running.trip.stopLatch = false)
    ∧ (Serving stopped ∧ stopped.trip.stopLatch = true ∧ stopped.estopAsserted = true)
    ∧ (let s := stoppedByRow
      Serving s ∧ s.trip.stopLatch = true ∧ s.estopAsserted = false ∧ s.trip.records[(19 : TripRow)].state = .active
        ∧ s.trip.records[(19 : TripRow)].snapshot = some (faultRow 3 0) ∧ (faultRow 3 0).acts = .shopStop
        ∧ ∀ k : TripRow, k < 19 → s.trip.records[k].state ≠ .active)
    ∧ (let s := after .estopNDeassertion stopped
      Serving s ∧ s.trip.stopLatch = true ∧ s.estopAsserted = false ∧ ∀ r : TripRow, s.trip.records[r].state ≠ .active) := by decide +kernel

theorem witness_TapRefused : Serving readyShop ∧ Serving queued ∧ namedHeat readyShop 7 12 true = .error .badArg
    ∧ namedHeat queued 3 56 true = .error .staleHeat := ⟨by decide +kernel, by decide +kernel, rfl, rfl⟩

theorem witness_TapRequest : (Serving readyShop ∧ readyShop.store.mode ≠ .unconfigured ∧ readyShop.heatOf 0 = some readyHeat
      ∧ readyShop.tap.station.grant = none ∧ readyShop.tap.station.state = .free ∧ readyShop.tap.queue = []
      ∧ granted.tap.queue = [])
    ∧ (Serving queued ∧ queued.heatOf 2 = some (heatIn .melting 57 9000 0) ∧ (∃ e ∈ queued.tap.queue, e.furnace = 2))
    ∧ (granted.tap.station.grant = some { furnace := 0, heatId := 12, second := 7000 } ∧ granted.tap.station.state ≠ .free
      ∧ ¬ ∃ e ∈ granted.tap.queue, e.furnace = 2)
    ∧ (let fit : TapEntry := { furnace := 0, heatId := 12, second := 6990 }
      let late : TapEntry := { furnace := 2, heatId := 57, second := 7000 }
      let s := { readyShop with tap := { readyShop.tap with queue := [fit] } }
      Serving s ∧ s.heatOf 2 = some (heatIn .melting 57 9000 0) ∧ s.tap.station.state = .free ∧ (∀ e ∈ s.tap.queue, e.furnace ≠ 2)
        ∧ (after (.tapRequest 2 1 3 57) s).tap.queue = [] ++ late :: []
        ∧ (after (.tapRequest 2 1 3 57) s).tap.station.grant = some { furnace := 0, heatId := 12, second := 7000 }) := by decide +kernel

theorem witness_TapCancel : (Serving queued ∧ queued.store.mode ≠ .unconfigured ∧ queued.heatOf 2 = some (heatIn .melting 57 9000 0)
      ∧ ∃ e ∈ queued.tap.queue, e.furnace = 2)
    ∧ (Serving granted ∧ (granted.heatOf 0).isSome = true ∧ granted.tap.station.grant = some { furnace := 0, heatId := 12, second := 7000 }
      ∧ granted.tap.station.state = .granted ∧ ∀ e ∈ granted.tap.queue, e.furnace ≠ 0)
    ∧ (Serving pouring ∧ pouring.tap.station.state = .pouring
      ∧ pouring.tap.station.grant = some { furnace := 0, heatId := 12, second := 7000 } ∧ pouring.tap.queue = [])
    ∧ (Serving atWork ∧ (atWork.heatOf 0).isSome = true ∧ atWork.tap.queue = [] ∧ atWork.tap.station.grant = none) := by decide +kernel

theorem witness_StatusExpiry : State.reset.resetLow = false ∧ State.reset.link.plant.up = false ∧ granted.link.plant.up = true
    ∧ granted.tap.station.grant = some { furnace := 0, heatId := 12, second := 7000 } ∧ running.tap.station.grant = none
    ∧ running.tap.station.lastRelease = none
    ∧ (after (.tapCancel 2 1 1 12) granted).tap.station.lastRelease =
      some { furnace := 0, heatId := 12, second := 7000, outcome := .tapCancelled, overdue := false } := by decide +kernel

theorem witness_IntegrationMelts : running.resetLow = false ∧ running.heatOf 0 = none
    ∧ atWork.heatOf 2 = some (heatIn .melting 57 9000 0) ∧ (heatIn .melting 57 9000 0).stage = .melting
    ∧ (∀ r ∈ (atWork.powerOf 2).report, 2 < (atWork.clock - r.second).toNat)
    ∧ (let r : PowerReading := { power := 2000, second := 6998 }
      let s := atWork.setPower 2 { power 3000 none with report := some r }
      (s.powerOf 2).report = some r ∧ (s.clock - r.second).toNat ≤ 2)
    ∧ (let r : PowerReading := { power := 2000, second := 6997 }
      let s := atWork.setPower 2 { power 3000 none with report := some r }
      (s.powerOf 2).report = some r ∧ 2 < (s.clock - r.second).toNat)
    ∧ (let net : Int := ((min (atWork.powerOf 2).inForce (atWork.furnaceEntry 2).rating.toNat * 768 / 1024 : Nat) : Int) - 300
      (atWork.furnaceEntry 2).efficiency = 768 ∧ (atWork.furnaceEntry 2).loss = 300
        ∧ 0 < (heatIn .melting 57 9000 0).meltRemaining - net.toNat
        ∧ ({ heatIn .melting 57 9000 0 with meltRemaining := 1950 } : Heat).meltRemaining - net.toNat = 0) := by decide +kernel

/-- F1 HOLDING at an estimate with a residual, unpowered: the falling bath of section 3.4. -/
def falling (estimate residual : Int) : Heat := { heatIn .holding 12 12000 estimate with residual := residual }

theorem witness_IntegrationMoves :
    (let s := (atWork.setHeat 0 (some (falling 14800 0))).setPower 0 (power 0 none)
      let k : Int := ((12000 * (s.programmeEntry 0).specificHeat.toNat : Nat) : Int)
      s.resetLow = false ∧ s.heatOf 0 = some (falling 14800 0) ∧ (falling 14800 0).stage ≠ .melting
        ∧ (∀ r ∈ (s.powerOf 0).report, 2 < (s.clock - r.second).toNat) ∧ (s.powerOf 0).inForce = 0
        ∧ 0 < k ∧ k * (-1) ≤ (0 - 300) * 10000 + 0 ∧ (0 - 300) * 10000 + 0 < k * ((-1) + 1)
        ∧ (0 ≤ (falling 14800 0).estimate + (-1) ∧ (falling 14800 0).estimate + (-1) ≤ 18000))
      ∧ (falling 0 0).estimate + (-1) < 0
      ∧ (let r : PowerReading := { power := 4400, second := 7000 }
        let s := (atWork.setHeat 0 (some (falling 17999 9000000))).setPower 0 { power 400 none with report := some r }
        let k : Int := ((12000 * (s.programmeEntry 0).specificHeat.toNat : Nat) : Int)
        let n : Int := (((min r.power (s.furnaceEntry 0).rating.toNat * 768 / 1024 : Nat) : Int) - 300) * 10000 + 9000000
        (s.powerOf 0).report = some r ∧ (s.clock - r.second).toNat ≤ 2 ∧ k * 3 ≤ n ∧ n < k * (3 + 1)
          ∧ 18000 < (falling 17999 9000000).estimate + 3)
      ∧ (heatIn .holding 12 0 14800).bathMass = 0 := by decide +kernel

theorem witness_PeriodExpiry : atWork.resetLow = false
    ∧ (∀ id ∈ ([.shop, .unit, .furnace, .programme] : List TableId), atWork.store.swapPendingOf id = false)
    ∧ atWork.configured 4 = false ∧ atWork.configured 0 = true
    ∧ (∀ u : PowerUnit, (furnaces.map fun f => if atWork.feedingUnit f = some u then (atWork.furnaceEntry f).holdFloor.toNat else 0).sum
      ≤ atWork.store.unit.active[u].rating.toNat) := by decide +kernel

/-- Every table of the governor waits for its swap: F3 leaves service and F5 joins at U2; P2 goes, and its heat in F2 falls back to
P0; the boost limit falls to 1 below the two heats in BOOST. -/
def swapsDue : State :=
  let base := (running.setHeat 0 (some { heatIn .holding 12 9000 14800 with holdMode := .boost })).setHeat 1
    (some { heatIn .holding 13 9000 14800 with holdMode := .boost, programme := 2 })
  let t := withUnitShadow (withFurnaceShadow base.store ((rows (furnaceRow 2 1 1 300)).set 2 {})) #v[unitRow 21 1 2, unitRow 22 5 4, {}]
  shadowed (fun _ => [TableId.shop, .unit, .furnace, .programme].foldl TableStore.markPending
    { t with
      shop := t.shop.setShadow { shopRow with boostLimit := 1, windowMode := 1 }
      programme := t.programme.setShadow (t.programme.active.set 2 {}) }) base

/-- F1 is granted while a swap waits that moves it to U2, which an ACTIVE CUT record covers. -/
def cutGrantDue : State :=
  let row := { faultRow 2 0 with scopeKind := 2, scopeNumber := 2 }
  let s := shadowed (fun t => 
    [TableId.unit, .furnace].foldl TableStore.markPending
      (withUnitShadow (withFurnaceShadow t ((rows {}).set 0 (furnaceRow 2 1 1 400))) #v[unitRow 21 0 2, unitRow 22 1 4, {}])) granted
  { s with trip := { s.trip with records := s.trip.records.set 9 { TripRecord.cold with state := .active, snapshot := some row } } }

theorem witness_PeriodSwaps :
    (let s := swapsDue
      let u := after .allocationPeriodExpiry s
      s.resetLow = false ∧ (∀ id ∈ ([.shop, .unit, .furnace, .programme] : List TableId), s.store.swapPendingOf id = true)
        ∧ (s.configured 2 = true ∧ u.configured 2 = false) ∧ (s.configured 4 = false ∧ u.configured 4 = true)
        ∧ (u.configured 0 = s.configured 0 ∧ s.heatOf 2 = none ∧ (s.heatOf 0).isSome = true) ∧ u.trip = s.trip
        ∧ (s.heatOf 1).map (·.programme) = some 2 ∧ (u.heatOf 1).map (fun h => (h.programme, h.holdMode)) = some (0, .boostWait)
        ∧ (u.heatOf 0).map (·.holdMode) = some .boost)
      ∧ (let s := cutGrantDue
        let u := after .allocationPeriodExpiry s
        s.tap.station.state = .granted ∧ s.tap.station.grant = some { furnace := 0, heatId := 12, second := 7000 }
          ∧ s.permitOf 0 ≠ .cut ∧ u.permitOf 0 = .cut ∧ u.tap.station.lastRelease.map (·.outcome) = some .tapCut) := by decide +kernel

theorem witness_SilenceAndHolds :
    (running.resetLow = false ∧ running.gov.plantSilence.isSome = true ∧ (after .plantSilence running).gov.plantSilence = none)
      ∧ ((running.powerOf 0).refresh = none ∧ (running.setPower 0 { power 400 none with refresh := some { start := 6999, length := 2 } }
        |>.powerOf 0).refresh.isSome = true)
      ∧ (running.heatOf 0 = none ∧ atWork.heatOf 0 = some (heatIn .holding 12 9000 14800))
      ∧ ((heatIn .superheat 14 9000 12000).holdTimer = none ∧ (heatIn .holding 12 9000 14800).holdTimer.isSome = true)
      ∧ ((atWork.dipWindow 0).isSome = false ∧ atWork.permitOf 0 = .permitted ∧ atWork.store.mode = .running
        ∧ (heatIn .holding 12 9000 14800).holdMode ≠ .directed)
      ∧ ((after (.dipEventStart .field 2 50 [1]) atWork).dipWindow 0).isSome = true
      ∧ ((14699 : Int) < (14800 : Half).toNat - (100 : Half).toNat ∧ ((14800 : Half).toNat + (50 : Half).toNat : Int) ≤ 14850
        ∧ ((14800 : Half).toNat - (100 : Half).toNat : Int) ≤ 14700) := by decide +kernel

theorem witness_CoolingTimers : running.resetLow = false
    ∧ (∀ id ∈ ([.channel, .circuit, .trip] : List TableId), running.store.swapPendingOf id = false)
    ∧ running.cool.circuits[(3 : Circuit)].spanTimer.isSome = true ∧ running.cool.circuits[(15 : Circuit)].spanTimer = none := by decide +kernel

/-- A CIRCUIT swap waits that takes C4 from F2 to U1 while T5 is ACTIVE, so that it covers F1 too, and brings C5 into service. -/
def widening : State :=
  let moved := { circuitRow with ownerKind := 1, ownerNumber := 1 }
  shadowed (fun t =>
    ({ t with circuit := t.circuit.setShadow ((t.circuit.active.set 3 moved).set 4 circuitRow) } : TableStore).markPending .circuit)
    (cutShop true true)

theorem witness_AgeSwaps :
    (let s := widening
     s.resetLow = false ∧ s.store.swapPendingOf .circuit = true ∧ PermitsSound s
        ∧ NewlyCovered s s.store (after .ageTimerExpiry s).store 0 ∧ (after .ageTimerExpiry s).permitOf 0 = .cut ∧ s.permitOf 0 ≠ .cut
        ∧ s.configured 0 = true ∧ s.trip.latchedCuts[(1 : Furnace)] = true
        ∧ ((after .ageTimerExpiry s).furnaceEntry 0).present ≠ 0 ∧ ((after .ageTimerExpiry s).furnaceEntry 5).present = 0
        ∧ ((after .ageTimerExpiry s).store.circuit.active[(4 : Circuit)].present ≠ 0 ∧ s.cool.circuits[(4 : Circuit)].present = false))
      ∧ (let s := shadowed (fun t => ({ t with circuit := t.circuit.setShadow (Vector.replicate 16 {}) } : TableStore).markPending .circuit) running
        s.cool.circuits[(3 : Circuit)].present = true ∧ (after .ageTimerExpiry s).store.circuit.active[(3 : Circuit)].present = 0)
      ∧ (let s := shadowed (·.markPending .trip) (stale running)
        s.store.swapPendingOf .trip = true ∧ s.trip.records[(4 : TripRow)].state ≠ .active) := by decide +kernel

/-- T5 watching the span of C4. -/
def spanRow : TripEntry := { faultRow 2 0 with quantity := 4, condition := 0 }

theorem touches_flow : Touches running 31 [0, 0, 0xE8, 0x03] 3 .flow :=
  .inl ⟨.flow, 2500, by decide +kernel, .inl rfl⟩

theorem witness_EventRows :
      (let s := stale atWork
      s.resetLow = false ∧ (∀ id ∈ ([.channel, .circuit, .trip] : List TableId), s.store.swapPendingOf id = false)
        ∧ (rowInForce s 4).present ≠ 0 ∧ (rowInForce s 4).test = .fault ∧ s.trip.records[(4 : TripRow)].state ≠ .active
        ∧ circuitAtFault (ageCircuits s) (rowInForce s 4) = some 3
        ∧ s.trip.records[(4 : TripRow)].persistenceCount + 1 = (rowInForce s 4).persistence.toNat
        ∧ rowCovers s.store.coverBanks (rowInForce s 4) 1 = true ∧ (rowInForce s 4).acts = .cut ∧ s.permitOf 1 ≠ .cut ∧ s.configured 1 = true)
      ∧ (rowInForce running 0).present = 0
      ∧ (let fresh := { CircuitRecord.initial with present := true, flow := { value := some 2250, age := 0 } }
        let s := { running with cool := { running.cool with circuits := running.cool.circuits.set 3 fresh } }
        s.trip.records[(4 : TripRow)].state ≠ .active ∧ circuitAtFault (ageCircuits s) (rowInForce s 4) = none)
      ∧ ((faultRow 1 0).acts = .shed ∧ (faultRow 3 0).acts = .shopStop)
      ∧ (let s := shedShop
        s.trip.records[(4 : TripRow)].state = .active ∧ s.trip.records[(4 : TripRow)].snapshot = some (rowInForce s 4)
          ∧ (rowInForce s 4).latching ≠ 0 ∧ (rowInForce s 4).present ≠ 0 ∧ (rowInForce s 4).test = .fault)
      ∧ (([0, 0, 0xE8, 0x03] : List Byte).length % 4 = 0 ∧ (2 : Byte) ≠ running.shopEntry.partAddress
        ∧ (rowInForce running 4).watches = .flow ∧ inScope running (rowInForce running 4) 3 = true)
      ∧ (let s := shadowed (fun t => { t with trip := swapped ((Vector.replicate 32 ({} : TripEntry)).set 4 spanRow) }) running
        s.cool.circuits[(3 : Circuit)].spanTimer = some { start := 6995, length := 10 }
          ∧ (rowInForce s 4).watches = .flowSpan ∧ inScope s (rowInForce s 4) 3 = true) := by decide +kernel

theorem witness_ReadinessExpiry :
    (granted.resetLow = false ∧ granted.tap.station.state ≠ .free) ∧ (∀ e ∈ atWork.tap.queue, (findingsOf atWork e.furnace).allMet = false)
      ∧ (let late : TapEntry := { furnace := 2, heatId := 57, second := 6900 }
        let fit : TapEntry := { furnace := 0, heatId := 12, second := 6950 }
        let s := { readyShop with tap := { readyShop.tap with queue := [late, fit] } }
        s.tap.station.state = .free ∧ s.tap.queue = [late] ++ fit :: [] ∧ (∀ x ∈ [late], (findingsOf s x.furnace).allMet = false)
          ∧ (findingsOf s fit.furnace).allMet = true ∧ (∀ x ∈ [late] ++ [], x.furnace ≠ fit.furnace)
          ∧ s.heatOf 0 = some readyHeat ∧ s.configured 0 = true) := by decide +kernel

theorem witness_TapWindow :
    (running.resetLow = false ∧ running.tap.station.tapTimer = none ∧ running.tap.silenceTimer = none)
      ∧ (granted.tap.station.tapTimer.isSome = true ∧ granted.tap.station.state = .granted
        ∧ granted.tap.station.grant = some { furnace := 0, heatId := 12, second := 7000 })
      ∧ (pouring.tap.station.tapTimer.isSome = true ∧ pouring.tap.station.state = .pouring ∧ pouring.tap.silenceTimer.isSome = true) := by
  decide +kernel

theorem witness_SoundAtWork : Sound atWork := by
  refine ⟨?_, ?_, ?_, ?_, ?_, ?_, ?_, ?_, ?_, ?_, ?_⟩ <;> decide +kernel

theorem witness_SoundPouring : Sound pouring := by
  refine ⟨?_, ?_, ?_, ?_, ?_, ?_, ?_, ?_, ?_, ?_, ?_⟩ <;> decide +kernel

theorem witness_SoundUnderCut : Sound (cutShop false true) := by
  refine ⟨?_, ?_, ?_, ?_, ?_, ?_, ?_, ?_, ?_, ?_, ?_⟩ <;> decide +kernel

theorem witness_SoundStopped : Sound stopped := by
  refine ⟨?_, ?_, ?_, ?_, ?_, ?_, ?_, ?_, ?_, ?_, ?_⟩ <;> decide +kernel

/-- From the sound state that pours a step answers, as every invariant asks. -/
theorem witness_StepAnswers : step { pouring with pending := [.allocationPeriodExpiry] } =
    .next (after .allocationPeriodExpiry { pouring with pending := [] }) := rfl

end Sys2Proof.Tests
end

section
/-! PROOFS. A WINDOW_SYNC acts by the window mode in force (R68 to R71). -/

namespace Sys2Proof.Machine

/-! ### The window mode -/

theorem mode_of_windowMode_zero {e : ShopEntry} (h : e.windowMode = 0) : e.mode = .free := by simp [ShopEntry.mode, h]
theorem mode_of_windowMode_one {e : ShopEntry} (h : e.windowMode = 1) : e.mode = .sync := by simp [ShopEntry.mode, h]
theorem mode_of_windowMode_two {e : ShopEntry} (h : e.windowMode = 2) : e.mode = .syncEveryN := by simp [ShopEntry.mode, h]

/-! ### A WINDOW_SYNC -/

/-- A WINDOW_SYNC for another node is heard, handed to the reader of its port, and crosses (R68, R156). -/
theorem exec_windowSync {s : State} {dst : Byte} {pl : List Byte} (p : Port) (src : Byte) (hr : s.resetLow = false)
    (hd : dst ≠ s.shopEntry.partAddress) (hl : pl.length ≤ 120) :
    let fr : Frame := { dst := dst, src := src, kind := 0x57, payload := pl }
    exec (.windowSync p dst src pl) s = .next (offered p fr (readFrame p fr (heardOn p s))) := by
  intro fr
  have arrival : exec (.windowSync p dst src pl) s = .next (if s.resetLow then s else frameArrives p fr s) := rfl
  have other : ¬ fr.dst = s.partAddress := hd
  rw [arrival, hr, if_neg Bool.false_ne_true, frameArrives_fits hl, if_neg other, ← offerForward_eq]
  rfl

/-- On PLANT the reader of a WINDOW_SYNC is the demand window (R68). -/
theorem readFrame_windowSync_plant (dst src : Byte) (pl : List Byte) (s : State) :
    readFrame .plant { dst := dst, src := src, kind := 0x57, payload := pl } s = takeWindowSync s := rfl

/-- On FIELD a WINDOW_SYNC has no reader (R68). -/
theorem readFrame_windowSync_field (dst src : Byte) (pl : List Byte) (s : State) :
    readFrame .field { dst := dst, src := src, kind := 0x57, payload := pl } s = s := rfl

/-- In SYNC a taken WINDOW_SYNC closes the window (R69). -/
theorem takeWindowSync_sync {s : State} (h : s.shopEntry.windowMode = 1) : takeWindowSync s = closeWindow s .sync := by
  simp only [takeWindowSync, mode_of_windowMode_one h]

/-- In SYNC_EVERY_N the N-th taken WINDOW_SYNC closes the window (R70). -/
theorem takeWindowSync_nth {s : State} (h : s.shopEntry.windowMode = 2)
    (nth : s.gov.window.syncCount + 1 = s.shopEntry.syncsPerWindow.toNat) : takeWindowSync s = closeWindow s .sync := by
  simp only [takeWindowSync, mode_of_windowMode_two h, if_pos nth]
  rfl

/-- In SYNC_EVERY_N a taken WINDOW_SYNC that is not the N-th is counted (R70). -/
theorem takeWindowSync_counted {s : State} (h : s.shopEntry.windowMode = 2)
    (early : ¬ s.gov.window.syncCount + 1 = s.shopEntry.syncsPerWindow.toNat) :
    takeWindowSync s = s.setWindow { s.gov.window with syncCount := s.gov.window.syncCount + 1 } := by
  simp only [takeWindowSync, mode_of_windowMode_two h, if_neg early]

/-- In FREE a taken WINDOW_SYNC is counted as ignored (R71). -/
theorem takeWindowSync_free {s : State} (h : s.shopEntry.windowMode = 0) :
    takeWindowSync s = s.setWindow { s.gov.window with ignoredSyncs := min 65535 (s.gov.window.ignoredSyncs + 1) } := by
  simp only [takeWindowSync, mode_of_windowMode_zero h]
  rfl

/-- Settles O21, by the window mode in force. -/
theorem windowSyncActsByMode : Obligations.WindowSyncActsByMode := by
  unfold Obligations.WindowSyncActsByMode
  intro s dst src pl hr hd hl
  have read := exec_windowSync .plant src hr hd hl
  dsimp only at read
  rw [readFrame_windowSync_plant] at read
  refine ⟨fun sync => ?_, fun everyN => ?_, fun free => ?_, ?_⟩
  · rw [read, takeWindowSync_sync (s := heardOn .plant s) sync, closeWindow_spec]
    rfl
  · by_cases nth : s.gov.window.syncCount + 1 = s.shopEntry.syncsPerWindow.toNat
    · rw [read, takeWindowSync_nth (s := heardOn .plant s) everyN nth, closeWindow_spec, if_pos nth]
      rfl
    · rw [read, takeWindowSync_counted (s := heardOn .plant s) everyN nth, if_neg nth]
      rfl
  · rw [read, takeWindowSync_free (s := heardOn .plant s) free]
    rfl
  · rw [exec_windowSync .field src hr hd hl, readFrame_windowSync_field]
    rfl

end Sys2Proof.Machine
end

section
/-! PROOFS. The allocation period's expiry: the account and the close test (R64 to R67), the allowance and the allocations (R73,
R75, R81, R87), and the holdings that follow (R92). -/

namespace Sys2Proof.Machine

/-! ### The account of the period and the close test -/

/-- The t at which the window closes on its own timer: its length, and the sync guard on top outside FREE (R66). -/
def closingTime (e : ShopEntry) : Nat :=
  if e.windowMode = 0 then e.windowLength.toNat else e.windowLength.toNat + e.syncGuard.toNat

/-- The closed-by value of a window that its own timer closes (R66). -/
def timerClosedBy (e : ShopEntry) : ClosedBy := if e.windowMode = 0 then .timer else .syncMissed

/-- The window record when the period just ended has been charged and t has advanced (R64 steps 1 and 2, R65). -/
def advancedWindow (w : WindowRecord) : WindowRecord :=
  { w with
    elapsed := min 65535 (w.elapsed + 1)
    used := min 4294967295 (w.used + w.issuedTotal)
    overrun := min 4294967295 (w.overrun + w.floorExcess)
    demandOverrun := w.demandOverrun || decide (0 < w.floorExcess)
    peak := max w.peak w.issuedTotal }

/-- The record of the window that opens when its own timer closes the one before (R66, R67). -/
def reopenedWindow (e : ShopEntry) (w : WindowRecord) : WindowRecord :=
  { w with
    number := w.number + 1, elapsed := 0, used := 0, overrun := 0, peak := 0, syncCount := 0, demandOverrun := false
    missedSyncs := if e.windowMode = 0 then w.missedSyncs else min 65535 (w.missedSyncs + 1) }

/-- The history entry of a window that its own timer closes (R67). -/
def timerClosedEntry (e : ShopEntry) (w : WindowRecord) : HistoryEntry :=
  { number := w.number, used := w.used, overrun := w.overrun, peak := w.peak, closedBy := timerClosedBy e }

/-- The close test of R66 compares t with the closing time, whatever the mode. -/
theorem closeTest_eq (e : ShopEntry) (t : Nat) :
    closeTest e t = if closingTime e ≤ t then some (timerClosedBy e) else none := by
  unfold closeTest closingTime timerClosedBy ShopEntry.mode
  by_cases free : e.windowMode = 0
  · simp only [if_pos free]
  · simp only [if_neg free]
    by_cases sync : e.windowMode = 1
    · simp only [if_pos sync]
    · simp only [if_neg sync]

/-- Steps 1 and 2 of R64 where the window stays open. -/
theorem chargeAndAdvance_open {s : State} (h : ¬ closingTime s.shopEntry ≤ (advancedWindow s.gov.window).elapsed) :
    chargeAndAdvance s = s.setWindow (advancedWindow s.gov.window) := by
  have test : closeTest s.shopEntry (advancedWindow s.gov.window).elapsed = none := by rw [closeTest_eq, if_neg h]
  simp only [advancedWindow] at test
  simp only [chargeAndAdvance, chargeWindow, State.setWindow, satAdd, Config.max16, test]
  rfl

/-- Steps 1 and 2 of R64 where the window closes on its own timer. -/
theorem chargeAndAdvance_closed {s : State} (h : closingTime s.shopEntry ≤ (advancedWindow s.gov.window).elapsed) :
    chargeAndAdvance s = { s with gov := { s.gov with
      window := reopenedWindow s.shopEntry (advancedWindow s.gov.window)
      history := (timerClosedEntry s.shopEntry (advancedWindow s.gov.window) :: s.gov.history).take 4 } } := by
  have test : closeTest s.shopEntry (advancedWindow s.gov.window).elapsed = some (timerClosedBy s.shopEntry) := by
    rw [closeTest_eq, if_pos h]
  simp only [advancedWindow] at test
  by_cases free : s.shopEntry.windowMode = 0
  · have timer : timerClosedBy s.shopEntry = .timer := if_pos free
    rw [timer] at test
    simp only [chargeAndAdvance, chargeWindow, State.setWindow, satAdd, Config.max16, test, reopenedWindow, timerClosedEntry, timer,
      if_pos free]
    rfl
  · have missed : timerClosedBy s.shopEntry = .syncMissed := if_neg free
    rw [missed] at test
    simp only [chargeAndAdvance, chargeWindow, State.setWindow, satAdd, Config.max16, test, reopenedWindow, timerClosedEntry, missed,
      if_neg free]
    rfl

/-- The window record after steps 1 and 2 of R64. -/
def windowAfterPeriod (e : ShopEntry) (w : WindowRecord) : WindowRecord :=
  if closingTime e ≤ (advancedWindow w).elapsed then reopenedWindow e (advancedWindow w) else advancedWindow w

/-- The window history after steps 1 and 2 of R64. -/
def historyAfterPeriod (e : ShopEntry) (w : WindowRecord) (history : List HistoryEntry) : List HistoryEntry :=
  if closingTime e ≤ (advancedWindow w).elapsed then (timerClosedEntry e (advancedWindow w) :: history).take 4 else history

/-- Steps 1 and 2 of R64 change the window record and the history alone. -/
theorem chargeAndAdvance_eq (s : State) :
    chargeAndAdvance s = { s with gov := { s.gov with
      window := windowAfterPeriod s.shopEntry s.gov.window
      history := historyAfterPeriod s.shopEntry s.gov.window s.gov.history } } := by
  unfold windowAfterPeriod historyAfterPeriod
  by_cases closes : closingTime s.shopEntry ≤ (advancedWindow s.gov.window).elapsed
  · rw [chargeAndAdvance_closed closes, if_pos closes, if_pos closes]
  · rw [chargeAndAdvance_open closes, if_neg closes, if_neg closes]
    rfl

/-! ### A furnace that is not configured is granted nothing -/

section
variable {s : State} {f : Furnace}

theorem headroomFor_of_not_configured (h : s.configured f = false) (grants : Vector Nat 6) : headroomFor s grants f = 0 := by
  simp [headroomFor, State.feedingUnit, h]

theorem inClass_of_not_configured (h : s.configured f = false) (st : Stage) : inClass s st f = false := by
  simp [inClass, h]

/-- A grant to any furnace leaves that of an unconfigured one, whose headroom is 0. -/
theorem grantWithin_of_not_configured (h : s.configured f = false) (d : Shares) (g : Furnace) (amount : Nat) :
    (grantWithin s d g amount).grants[f] = d.grants[f] := by
  simp only [grantWithin, modifyAt_get]
  split
  · next e => subst e; rw [headroomFor_of_not_configured h, Nat.min_zero, Nat.add_zero]
  · rfl

/-- A run of grants leaves that of an unconfigured furnace, whatever the amounts are. -/
theorem foldl_grantWithin_of_not_configured (h : s.configured f = false) (amount : Shares → Furnace → Nat) (l : List Furnace)
    (d : Shares) : (l.foldl (fun acc g => grantWithin s acc g (amount acc g)) d).grants[f] = d.grants[f] := by
  induction l generalizing d with
  | nil => rfl
  | cons g l ih => rw [List.foldl_cons, ih, grantWithin_of_not_configured h]

theorem applyGrants_of_not_configured (h : s.configured f = false) (amounts : Vector Nat 6) (d : Shares) :
    (applyGrants s amounts d).grants[f] = d.grants[f] :=
  foldl_grantWithin_of_not_configured h (fun _ g => amounts[g]) furnaces d

theorem fillClaims_of_not_configured (h : s.configured f = false) (claims before : Vector Nat 6) (d : Shares) :
    (fillClaims s claims before d).grants[f] = d.grants[f] :=
  foldl_grantWithin_of_not_configured h (fun acc g => min (claims[g] - (acc.grants[g] - before[g])) acc.pool) furnaces d

theorem serveClass_of_not_configured (h : s.configured f = false) (member : Furnace → Bool) (amount : Furnace → Nat) (d : Shares) :
    (serveClass s member amount d).grants[f] = d.grants[f] := by
  unfold serveClass
  dsimp only
  split
  · exact applyGrants_of_not_configured h _ _
  · rw [fillClaims_of_not_configured h, applyGrants_of_not_configured h]

theorem floorGrants_of_not_configured (h : s.configured f = false) (targets : Vector Nat 6) : (floorGrants s targets)[f] = 0 := by
  simp [floorGrants, inClass_of_not_configured h]

/-- The distribution gives an unconfigured furnace nothing (R87). -/
theorem distribute_of_not_configured (h : s.configured f = false) (allowance : Nat) (targets : Vector Nat 6) :
    (distribute s allowance targets)[f] = 0 := by
  unfold distribute
  dsimp only
  rw [serveClass_of_not_configured h, serveClass_of_not_configured h, serveClass_of_not_configured h,
    floorGrants_of_not_configured h]

end

/-! ### Step 4 of R64: the allowance and the allocations -/

/-- The sum over a fixed collection of six, taken by furnace number. -/
theorem sum_by_furnace (v : Vector Nat 6) : v.toList.sum = (furnaces.map fun f => v[f]).sum := by
  have listed : v.toList = furnaces.map fun f => v[f] := by
    unfold furnaces List.finRange
    apply List.ext_getElem
    · simp only [Vector.length_toList, List.length_map, List.length_ofFn]
    · intro i _ _
      simp only [Vector.getElem_toList, List.getElem_map, List.getElem_ofFn, Fin.getElem_fin]
  rw [listed]

/-- R73 step 5 adds the ratings of the present units. -/
theorem unitRatingSum_eq (units : Vector UnitEntry 3) :
    unitRatingSum units = (powerUnits.map fun k => if units[k].present = 0 then 0 else units[k].rating.toNat).sum := by
  simp only [unitRatingSum, bne_iff_ne, ne_eq, ite_not]

/-- The allowance that step 4 of R64 takes from the account (R73). -/
def allowanceNow (s : State) : Nat := allowanceOf s.shopEntry s.store.unit.active s.gov.window.used s.gov.window.elapsed

/-- The allocations that step 4 of R64 makes, on the requests still fresh (R81, R87). -/
def allocationsNow (s : State) : Vector Nat 6 :=
  distribute (ageRequests s) (allowanceNow s) (Vector.ofFn fun f => if s.configured f then targetOf (ageRequests s) f else 0)

/-- An unconfigured furnace is allocated nothing. -/
theorem allocationsNow_of_not_configured {s : State} {f : Furnace} (h : s.configured f = false) : (allocationsNow s)[f] = 0 :=
  distribute_of_not_configured (s := ageRequests s) h _ _

/-- The requests by age and the allocations are what step 4 of R64 changes of a furnace (R81, R87). -/
theorem allocate_furnaces (s : State) :
    (allocate s).gov.furnaces = mapEach (ageRequests s).gov.furnaces fun f p =>
      { p with issued := (allocationsNow s)[f], inForce := (allocationsNow s)[f] } := rfl

theorem allocate_allowance (s : State) : (allocate s).gov.allowance = allowanceNow s := rfl

/-- The figures of the period under way are those of the new allocations (R73, R75). -/
theorem allocate_window (s : State) :
    (allocate s).gov.window = { s.gov.window with
      issuedTotal := (allocationsNow s).toList.sum
      floorExcess := (allocationsNow s).toList.sum - allowanceNow s
      budget := budgetOf s.shopEntry
      remaining := remainingTime s.shopEntry s.gov.window.elapsed } := rfl

/-- Nothing outside the governor, and of the governor neither the history nor a timer, is changed by an allocation. -/
theorem allocate_frame (s : State) :
    allocate s = { s with gov := { s.gov with
      furnaces := (allocate s).gov.furnaces, allowance := (allocate s).gov.allowance, window := (allocate s).gov.window } } := rfl

/-- R81 at step 4: the request of a configured furnace is kept while it is fresh. -/
theorem ageRequests_powerOf (s : State) (f : Furnace) :
    (ageRequests s).powerOf f = { s.powerOf f with
      request := if s.configured f then freshRequest s (s.powerOf f).request else (s.powerOf f).request } := by
  unfold ageRequests
  rw [powerOf_mapPowers]
  split <;> rfl

/-- Step 4 of R64 for one furnace. -/
theorem allocate_powerOf (s : State) (f : Furnace) :
    (allocate s).powerOf f = { s.powerOf f with
      request := if s.configured f then freshRequest s (s.powerOf f).request else (s.powerOf f).request
      issued := (allocationsNow s)[f], inForce := (allocationsNow s)[f] } := by
  have allocated : (allocate s).powerOf f =
      { (ageRequests s).powerOf f with issued := (allocationsNow s)[f], inForce := (allocationsNow s)[f] } := by
    simp only [State.powerOf, allocate_furnaces, mapEach_get]
  rw [allocated, ageRequests_powerOf]

/-! ### Step 5 of R64: the holdings -/

/-- A furnace whose allocation in force changed has its holding in step; the others keep theirs (R92). -/
theorem refreshHoldings_powerOf (before : Vector FurnacePower 6) (s : State) (f : Furnace) :
    (refreshHoldings before s).powerOf f = { s.powerOf f with
      holding :=
        if (s.powerOf f).inForce = before[f].inForce then (s.powerOf f).holding
        else if (s.powerOf f).inForce = (s.powerOf f).lastSent then none
        else some (holdingFor (s.powerOf f).inForce (s.powerOf f).lastSent) } := by
  unfold refreshHoldings
  rw [powerOf_mapPowers]
  split <;> rfl

/-! ### The expiry -/

/-- The state in which the period is allocated, where no swap is pending: steps 1 and 2 of R64 are done. -/
def accountedState (s : State) : State :=
  { s with gov := { s.gov with
    allocationTimer := { start := s.clock, length := 1 }
    window := windowAfterPeriod s.shopEntry s.gov.window
    history := historyAfterPeriod s.shopEntry s.gov.window s.gov.history } }

section
variable {s : State} (h : ∀ id ∈ ([.shop, .unit, .furnace, .programme] : List TableId), s.store.swapPendingOf id = false)
include h

/-- With no swap pending the expiry accounts, allocates and refreshes the holdings (R64). -/
theorem allocationEvent_accounted :
    allocationEvent s = refreshHoldings s.gov.furnaces (allocate (accountedState s)) := by
  rw [allocationEvent_noSwap h, chargeAndAdvance_eq]
  rfl

/-- One furnace after the expiry: its fresh request, its allocation, and the holding that follows a change (R81, R92). -/
theorem allocationEvent_powerOf (f : Furnace) :
    (allocationEvent s).powerOf f =
      let p := s.powerOf f
      let v := (allocationsNow (accountedState s))[f]
      { p with
        issued := v, inForce := v
        request := if s.configured f then freshRequest s p.request else p.request
        holding := if v = p.inForce then p.holding else if v = p.lastSent then none else some (holdingFor v p.lastSent) } := by
  rw [allocationEvent_accounted h, refreshHoldings_powerOf, allocate_powerOf]
  rfl

/-- The window record after the expiry: the account, and the figures of the new allocations (R73, R75). -/
theorem allocationEvent_window :
    let w := windowAfterPeriod s.shopEntry s.gov.window
    let total := (furnaces.map fun f => ((allocationEvent s).powerOf f).issued).sum
    (allocationEvent s).gov.window = { w with
      issuedTotal := total
      floorExcess := total - (allocationEvent s).gov.allowance
      budget := budgetOf s.shopEntry
      remaining := remainingTime s.shopEntry w.elapsed } := by
  have total : (furnaces.map fun f => ((allocationEvent s).powerOf f).issued).sum = (allocationsNow (accountedState s)).toList.sum := by
    simp only [allocationEvent_powerOf h, sum_by_furnace]
  have allowance : (allocationEvent s).gov.allowance = allowanceNow (accountedState s) := by
    rw [allocationEvent_accounted h, refreshHoldings, mapPowers_gov_allowance, allocate_allowance]
  dsimp only
  rw [total, allowance, allocationEvent_accounted h, refreshHoldings, mapPowers_gov_window, allocate_window]
  rfl

/-- The allowance after the expiry, from the budget and the account then in force (R73). -/
theorem allocationEvent_allowance :
    (allocationEvent s).gov.allowance =
      min (min (((allocationEvent s).gov.window.budget - (allocationEvent s).gov.window.used)
          / (allocationEvent s).gov.window.remaining) s.shopEntry.peakCap.toNat)
        (unitRatingSum s.store.unit.active) := by
  rw [allocationEvent_window h, allocationEvent_accounted h, refreshHoldings, mapPowers_gov_allowance, allocate_allowance]
  rfl

/-- The expiry restarts its own timer and changes nothing outside the governor (R64). -/
theorem allocationEvent_frame :
    allocationEvent s = { s with gov := { (allocationEvent s).gov with
      allocationTimer := { start := s.clock, length := 1 }
      history := historyAfterPeriod s.shopEntry s.gov.window s.gov.history
      plantSilence := s.gov.plantSilence } } := by
  rw [allocationEvent_accounted h, allocate_frame]
  rfl

end

/-- Out of reset the expiry is answered with its event (R64). -/
theorem exec_allocationPeriodExpiry {s : State} (h : s.resetLow = false) :
    exec .allocationPeriodExpiry s = .next (allocationEvent s) := by
  have answer : exec .allocationPeriodExpiry s = .next (if s.resetLow then s else allocationEvent s) := rfl
  rw [answer, h, if_neg Bool.false_ne_true]

/-- Settles O44: each part of the governor after the expiry, and the frame. -/
theorem periodExpiryChargesAndAllots : Obligations.PeriodExpiryChargesAndAllots := by
  unfold Obligations.PeriodExpiryChargesAndAllots
  intro s hr hs
  have inForce (f : Furnace) : ((allocationEvent s).powerOf f).inForce = (allocationsNow (accountedState s))[f] := by
    rw [allocationEvent_powerOf hs]
  refine ⟨allocationEvent s, exec_allocationPeriodExpiry hr, ?history, ?window, ?allowance, fun f => ⟨fun absent => ?absent, ?power⟩,
    ?timer, ?silence, ?frame⟩
  case history => rw [allocationEvent_frame hs]; rfl
  case window => rw [allocationEvent_window hs]; rfl
  case allowance => rw [← unitRatingSum_eq]; exact allocationEvent_allowance hs
  case absent => rw [inForce]; exact allocationsNow_of_not_configured (s := accountedState s) absent
  case power => rw [inForce]; exact allocationEvent_powerOf hs f
  case timer => rw [allocationEvent_frame hs]
  case silence => rw [allocationEvent_frame hs]
  case frame => rw [allocationEvent_frame hs]

end Sys2Proof.Machine
end
